-- ==== Sys2Proof/Word.lean ====
section
/-! DEFINITION. The plainest types of the block: bytes, slave addresses, descriptors, and a register that may
still be unwritten. -/

namespace Sys2Proof

/-- A byte is 8 bits (R12). -/
abbrev Byte := BitVec 8

/-- A 7-bit I2C slave address (R43, R100). -/
abbrev SlaveAddr := BitVec 7

/-- A 96-bit operation descriptor, bit 0 least significant (R12, R100). -/
abbrev Desc := BitVec 96

/-- A member of CLOCKS is named by its index in `Params.clockFreq` (R9, R11). -/
abbrev ClockId := Nat

/-- A state element the spec resets to `unwritten` (R61, R63): a state of its own, which R65 tells apart from every
value. An interrupt term over it is false (R322), an engine step that needs it has no step, and a micro-step that
reads it raises UNWRITTEN_READ (R65). -/
inductive Reg (α : Type) where
  | unwritten
  | written (v : α)
deriving DecidableEq, Repr

end Sys2Proof
end

