-- ==== Sys2Proof/Syntax.lean ====
section
/-! DEFINITION. The 25 operations of the opcode map (R103), one constructor per row of spec/opcode_table.json, with
the operands of their formats (R100, R101) as the fields of the descriptor hold them. -/

namespace Sys2Proof

/-- I2C transfer direction: `d[8]`, 1 = send, 0 = receive (R100, R224). -/
inductive Dir where
  | recv
  | send
deriving DecidableEq, Repr

/-- An interrupt vector (R323). `vm` exists under ONE_PER_MODULE, `vmTx` and `vmRx` under SPLIT_TX_RX, `vt` always. -/
inductive Vec where
  | vm
  | vmTx
  | vmRx
  | vt
deriving DecidableEq, Repr

/-- A handler a module vector's dispatcher can call (R323). -/
inductive Handler where
  | uartTx
  | uartRx
  | i2cTx
  | i2cRx
deriving DecidableEq, Repr

/-- The operations of the block (R103). A timeout operand `tmo_op` is `none` or `some t` (R102, R124). -/
inductive Instr where
  | swuPutc (b : Byte)
  | swuGetc
  | swuStatusRead
  | swuStatusClear
  | uartInit
  | uartEnable
  | uartDisable
  | uartTransfer (p : BitVec 32) (n : BitVec 16) (tmo : Option (BitVec 16))
  | uartPutc (b : Byte) (tmo : Option (BitVec 16))
  | uartPuts (p : BitVec 32) (tmo : Option (BitVec 16))
  | uartGetc (tmo : Option (BitVec 16))
  | uartStatusRead
  | uartStatusClear
  | uartHandleTxIrq
  | uartHandleRxIrq
  | i2cInit
  | i2cEnable
  | i2cDisable
  | i2cTransfer (dir : Dir) (a : SlaveAddr) (p : BitVec 32) (n : BitVec 16) (tmo : Option (BitVec 16))
  | i2cSend (a : SlaveAddr) (p : BitVec 32) (n : BitVec 16) (tmo : Option (BitVec 16))
  | i2cReceive (a : SlaveAddr) (p : BitVec 32) (n : BitVec 16) (tmo : Option (BitVec 16))
  | i2cHandleTxIrq
  | i2cHandleRxIrq
  | dispatch (v : Byte)
  | tickIsr
deriving DecidableEq, Repr

/-- Which agent may execute an operation (R103). -/
inductive Issuer where
  | fg
  | irq
deriving DecidableEq, Repr

end Sys2Proof
end

