-- ==== Sys2Proof/Config.lean ====
section
/-! DEFINITION. The parameters of R11, the choices that resolve the block's nondeterminism, and the free values. -/

namespace Sys2Proof

/-- CLAIM_KIND (R11, R120). -/
inductive ClaimKind where
  | counter
  | boolean
deriving DecidableEq, Repr

/-- TICK_WAKE (R11, R126). -/
inductive TickWake where
  | onExpiry
  | everyTickWhileExpired
deriving DecidableEq, Repr

/-- CTR_COMPARE (R11, R151). -/
inductive CtrCompare where
  | wrapAware
  | unsignedGe
  | equal
deriving DecidableEq, Repr

/-- SW_RX_START_DELAY: half a bit time, or a whole one (R11, R157, 90_conflicts.md C7). -/
inductive StartDelay where
  | halfBit
  | wholeBit
deriving DecidableEq, Repr

/-- BAUD_DOUBLE (R11, R180). -/
inductive BaudDouble where
  | elseOnly
  | always
deriving DecidableEq, Repr

/-- BAUD_RESIDUAL (R11, R180). -/
inductive BaudResidual where
  | mod8
  | rem
deriving DecidableEq, Repr

/-- UART_TX_EXHAUST and I2C_TX_EXHAUST (R11, R192, R230). -/
inductive Exhaust where
  | none
  | clearFlag
deriving DecidableEq, Repr

/-- I2C_RX_STOP_POLICY (R11, R233). -/
inductive RxStopPolicy where
  | preLe2
  | preEq2
  | postEq1
deriving DecidableEq, Repr

/-- I2C_STOP_IN_IDLE (R11, R291). -/
inductive StopInIdle where
  | fault
  | ignore
deriving DecidableEq, Repr

/-- VECTOR_MAP (R11, R323). -/
inductive VectorMap where
  | onePerModule
  | splitTxRx
deriving DecidableEq, Repr

/-- ROLE_B (R11, R220). -/
inductive Role where
  | master
  | slave
deriving DecidableEq, Repr

/-- The parameters of R11, every one of them, the OPEN ones and the decided ones with their alternatives. They are
plain data, so that a state can carry them (log 3): each definition of the model takes them as they come. -/
structure Params where
  /-- ADDR_W -/
  addrW : Nat
  /-- COUNT_W -/
  countW : Nat
  /-- BR_W -/
  brW : Nat
  /-- MOD_W -/
  modW : Nat
  /-- CTR_W -/
  ctrW : Nat
  /-- TMO_W -/
  tmoW : Nat
  /-- CLOCKS with `freq`: clock `c` is the `c`-th entry, its frequency in Hz. -/
  clockFreq : List Nat
  /-- F_SW -/
  fSw : Nat
  /-- S_SW -/
  sSw : Nat
  /-- CLK_A -/
  clkA : ClockId
  /-- S_A -/
  sA : Nat
  /-- CLK_B -/
  clkB : ClockId
  /-- S_B -/
  sB : Nat
  /-- ROLE_B -/
  roleB : Role
  /-- The value of the OPEN function I2C_PRESCALER at (F_B, S_B), that is I2C_DIV (R220; log 15). -/
  i2cDiv : Nat
  claimKind : ClaimKind
  tickWake : TickWake
  /-- WAIT_CHECK_SLEEP_ATOMIC -/
  waitAtomic : Bool
  ctrCompare : CtrCompare
  startDelay : StartDelay
  baudDouble : BaudDouble
  baudResidual : BaudResidual
  uartTxExhaust : Exhaust
  i2cTxExhaust : Exhaust
  rxStopPolicy : RxStopPolicy
  stopInIdle : StopInIdle
  /-- SLEEP_GATES_UNCLAIMED_CLOCKS -/
  sleepGates : Bool
  /-- HANDLER_ATOMIC_WRT_ENGINES -/
  handlerAtomic : Bool
  vectorMap : VectorMap
  /-- DISPATCH_ORDER(VM) -/
  orderVm : List Handler
  /-- DISPATCH_ORDER(VM_TX) -/
  orderTx : List Handler
  /-- DISPATCH_ORDER(VM_RX) -/
  orderRx : List Handler
  /-- DISPATCH_SHORT_CIRCUIT -/
  shortCircuit : Bool
deriving DecidableEq, Repr

/-- The decided values of R11, and for the OPEN ones the instance of 95_test_vectors.md section 0. Clock 0 is K1 and clock
1 is K2. DESIGN CHOICE (log 3): the spec leaves the OPEN ones open. That section gives DISPATCH_ORDER(VM) only, so the two
orders of a split vector map, `orderTx` and `orderRx`, are the model's own: the handlers in the order in which they stand in
that one (logs 3, 16). VECTOR_MAP is not split here, so no run from a launch under it enters the vectors that read them. -/
def Params.vectors : Params where
  addrW := 16
  countW := 16
  brW := 16
  modW := 8
  ctrW := 16
  tmoW := 16
  clockFreq := [1000000, 1000000]
  fSw := 1000000
  sSw := 9600
  clkA := 0
  sA := 9600
  clkB := 1
  sB := 100000
  roleB := .master
  i2cDiv := 10
  claimKind := .counter
  tickWake := .onExpiry
  waitAtomic := false
  ctrCompare := .wrapAware
  startDelay := .halfBit
  baudDouble := .elseOnly
  baudResidual := .mod8
  uartTxExhaust := .clearFlag
  i2cTxExhaust := .clearFlag
  rxStopPolicy := .preLe2
  stopInIdle := .fault
  sleepGates := true
  handlerAtomic := false
  vectorMap := .onePerModule
  orderVm := [.uartTx, .uartRx, .i2cTx, .i2cRx]
  orderTx := [.uartTx, .i2cTx]
  orderRx := [.uartRx, .i2cRx]
  shortCircuit := false

/-- Which agent moves next and what its step draws (R8, R14, R303). One constructor per kind of step: a foreground
micro-step, an interrupt-context micro-step, the entry of a vector (R327, with the choice of R329), and each
environment step of 44_engines.md with the value it draws. -/
inductive Choice where
  | fg
  | irq
  | enter (v : Vec)
  | uLoad
  | uShiftOut
  | uReceive (v : Byte)
  | iStart
  | iAddress (ack : Bool)
  | iLoad
  | iByteOut (ack : Bool)
  | iStopBegin
  | iStopEnd
  | iByteIn (v : Byte)
  | iStopIdle
  | iStartBusy
  | ctr
  | tick
  | line (b : Bool)
deriving DecidableEq, Repr, Inhabited

/-- The free schedule: the `n`-th choice once a state's own script is used up (log 2). DESIGN CHOICE in form only: it
has no body, so a statement holds for every schedule and every draw (R8, R303). -/
opaque Config.schedule : Nat → Choice

/-- The free value a cursor register takes when the sum written to it does not fit ADDR_W bits (R13, R81; log 11).
It has no body, and is applied to a counter of the state, so that each use is a fresh value. -/
opaque Config.freeCursor : Nat → Nat

end Sys2Proof
end

