-- ==== Sys2Proof/Machine/Setup.lean ====
section
/-! DEFINITION. What is computed from the configuration before the run (R104), its check at launch (R363), and what
the OPEN parameters must be for R11 to allow them. -/

namespace Sys2Proof

/-- `freq(c)` in Hz (R11); 0 for a clock outside CLOCKS, which R181 and R220 refuse. -/
def Params.freq (p : Params) (c : ClockId) : Nat := p.clockFreq.getD c 0

/-- Is `c` a member of CLOCKS (R11)? -/
def Params.isClock (p : Params) (c : ClockId) : Bool := c < p.clockFreq.length

/-- `swu.bit_time = F_SW div S_SW` (R150, R25). -/
def Params.bitTime (p : Params) : Nat := p.fSw / p.sSw

/-- SW_RX_START_DELAY (R157; 90_conflicts.md C7). -/
def Params.rxStartDelay (p : Params) : Nat :=
  match p.startDelay with
  | .halfBit => p.bitTime / 2
  | .wholeBit => p.bitTime

/-- BAUD_DIV (R180). -/
def Params.baudDiv (p : Params) : Nat := p.freq p.clkA / p.sA

/-- BAUD_REM (R180). -/
def Params.baudRem (p : Params) : Nat := p.freq p.clkA - p.baudDiv * p.sA

/-- `m_raw` of R180. -/
def Params.baudRaw (p : Params) : Nat := (8 * p.baudRem) / p.sA

/-- `resid` of R180, under BAUD_RESIDUAL. -/
def Params.baudResid (p : Params) : Nat :=
  match p.baudResidual with
  | .mod8 => (8 * p.baudRem) % p.sA
  | .rem => p.baudRem

/-- `frac10` of R180. -/
def Params.baudFrac10 (p : Params) : Nat := (10 * p.baudResid) / p.sA

/-- BAUD_MOD (R180), under BAUD_DOUBLE. -/
def Params.baudMod (p : Params) : Nat :=
  if p.baudFrac10 < 5 then
    match p.baudDouble with
    | .elseOnly => p.baudRaw
    | .always => 2 * p.baudRaw
  else 2 * (p.baudRaw + 1)

/-- The software UART's configuration is not refused (R150). -/
def Params.swuOk (p : Params) : Bool :=
  p.sSw ≠ 0 && p.bitTime ≠ 0 && p.bitTime < 2 ^ (p.ctrW - 1) && p.rxStartDelay < 2 ^ (p.ctrW - 1)

/-- The UART's configuration is not refused (R181). -/
def Params.uartOk (p : Params) : Bool :=
  p.sA ≠ 0 && p.isClock p.clkA && p.baudDiv ≠ 0 && p.baudDiv < 2 ^ p.brW && p.baudRem < 2 ^ p.brW
    && p.baudMod < 2 ^ p.modW

/-- The I2C's configuration is not refused (R220). -/
def Params.i2cOk (p : Params) : Bool :=
  p.roleB == .master && p.isClock p.clkB && 1 ≤ p.i2cDiv && p.i2cDiv < 2 ^ p.brW

/-- The launch's configuration check (R363). -/
def Params.configOk (p : Params) : Bool := p.swuOk && p.uartOk && p.i2cOk

/-- DISPATCH_ORDER(v) (R332); the tick vector has no handler list (R323). -/
def Params.dispatchOrder (p : Params) : Vec → List Handler
  | .vm => p.orderVm
  | .vmTx => p.orderTx
  | .vmRx => p.orderRx
  | .vt => []

/-- What R11 and R332 require of the parameters' own values: the widths' ranges, positive frequencies, and each
dispatch order a permutation of its vector's handler list (R323). -/
def Params.allowed (p : Params) : Bool :=
  1 ≤ p.addrW && p.addrW ≤ 32 && 1 ≤ p.countW && p.countW ≤ 16 && 2 ≤ p.ctrW && 1 ≤ p.tmoW && p.tmoW ≤ 16
    && p.clockFreq.all (fun f => 0 < f)
    && p.orderVm.isPerm [.uartTx, .uartRx, .i2cTx, .i2cRx]
    && p.orderTx.isPerm [.uartTx, .i2cTx]
    && p.orderRx.isPerm [.uartRx, .i2cRx]

end Sys2Proof
end

