-- ==== Sys2Proof/Machine/Operands.lean ====
section
/-! DEFINITION. Operands: which values the widths admit (R102), buffers (R81), vector numbers (R102), and which agent
issues an operation (R103). -/

namespace Sys2Proof.Machine

/-- A timeout operand as a count of ticks: NONE, or SOME(t) (R102, R124). -/
def tmoOp (tmo : Option (BitVec 16)) : Option Nat := tmo.map BitVec.toNat

/-- `ptr < 2^ADDR_W` (R102). -/
def ptrInRange (c : Params) (p : BitVec 32) : Bool := p.toNat < 2 ^ c.addrW

/-- `n < 2^COUNT_W` (R102). -/
def countInRange (c : Params) (n : BitVec 16) : Bool := n.toNat < 2 ^ c.countW

/-- A timeout operand is absent or below `2^TMO_W` (R102). -/
def tmoInRange (c : Params) (tmo : Option (BitVec 16)) : Bool :=
  match tmoOp tmo with
  | none => true
  | some t => t < 2 ^ c.tmoW

/-- The vector a format V number names (R102): 0 for VM, or 0 for VM_TX and 1 for VM_RX. -/
def vecOf (c : Params) (v : Byte) : Option Vec :=
  match c.vectorMap, v.toNat with
  | .onePerModule, 0 => some .vm
  | .splitTxRx, 0 => some .vmTx
  | .splitTxRx, 1 => some .vmRx
  | _, _ => none

/-- The number of a module vector (R102); VT has none, and is given 0 here, where no rule reads it. -/
def vecNum : Vec → Byte
  | .vm => 0
  | .vmTx => 0
  | .vmRx => 1
  | .vt => 0

/-- The range checks of R102 on a decoded operation; where one fails the descriptor is refused with FIELD_RANGE. -/
def rangeOk (c : Params) : Instr → Bool
  | .uartTransfer p n tmo => ptrInRange c p && countInRange c n && tmoInRange c tmo
  | .uartPutc _ tmo => tmoInRange c tmo
  | .uartPuts p tmo => ptrInRange c p && tmoInRange c tmo
  | .uartGetc tmo => tmoInRange c tmo
  | .i2cTransfer _ _ p n tmo => ptrInRange c p && countInRange c n && tmoInRange c tmo
  | .i2cSend _ p n tmo => ptrInRange c p && countInRange c n && tmoInRange c tmo
  | .i2cReceive _ p n tmo => ptrInRange c p && countInRange c n && tmoInRange c tmo
  | .dispatch v => (vecOf c v).isSome
  | .swuPutc _ => true
  | .swuGetc => true
  | .swuStatusRead => true
  | .swuStatusClear => true
  | .uartInit => true
  | .uartEnable => true
  | .uartDisable => true
  | .uartStatusRead => true
  | .uartStatusClear => true
  | .uartHandleTxIrq => true
  | .uartHandleRxIrq => true
  | .i2cInit => true
  | .i2cEnable => true
  | .i2cDisable => true
  | .i2cHandleTxIrq => true
  | .i2cHandleRxIrq => true
  | .tickIsr => true

/-- A buffer `(p, n)` runs past the end of the address space (R81). -/
def bufferWraps (c : Params) (p n : Nat) : Bool := p + n > 2 ^ c.addrW

/-- The issuer column of R103. -/
def issuer : Instr → Issuer
  | .uartHandleTxIrq => .irq
  | .uartHandleRxIrq => .irq
  | .i2cHandleTxIrq => .irq
  | .i2cHandleRxIrq => .irq
  | .dispatch _ => .irq
  | .tickIsr => .irq
  | .swuPutc _ => .fg
  | .swuGetc => .fg
  | .swuStatusRead => .fg
  | .swuStatusClear => .fg
  | .uartInit => .fg
  | .uartEnable => .fg
  | .uartDisable => .fg
  | .uartTransfer _ _ _ => .fg
  | .uartPutc _ _ => .fg
  | .uartPuts _ _ => .fg
  | .uartGetc _ => .fg
  | .uartStatusRead => .fg
  | .uartStatusClear => .fg
  | .i2cInit => .fg
  | .i2cEnable => .fg
  | .i2cDisable => .fg
  | .i2cTransfer _ _ _ _ _ => .fg
  | .i2cSend _ _ _ _ => .fg
  | .i2cReceive _ _ _ _ => .fg

/-- The operation a handler is (R322, R323). -/
def handlerInstr : Handler → Instr
  | .uartTx => .uartHandleTxIrq
  | .uartRx => .uartHandleRxIrq
  | .i2cTx => .i2cHandleTxIrq
  | .i2cRx => .i2cHandleRxIrq

end Sys2Proof.Machine
end

