-- ==== Sys2Proof/WellFormed.lean ====
section
/-! DEFINITION. When an operation is well-formed under a configuration: its operands pass the range checks of R102.
(The form of its descriptor, R105, is the decoder's check.) -/

namespace Sys2Proof

/-- Every operand is in the range the widths of `c` give it (R102). -/
abbrev Instr.WellFormed (c : Params) (i : Instr) : Prop := Machine.rangeOk c i = true

end Sys2Proof
end

