-- ==== Sys2Proof/Decode.lean ====
section
/-! DEFINITION. The decoder of 96-bit descriptors, total and rejecting by name (R100 to R103, R105), and the encoder.
The range checks of R102 depend on the configuration and are `Machine.rangeOk`. -/

namespace Sys2Proof

/-- Why a descriptor names no operation (R105). -/
inductive DecodeError where
  /-- `op` is not in the opcode map. -/
  | unassignedOpcode
  /-- A reserved bit is 1 or a field the format does not use is not 0. -/
  | reservedField
deriving DecidableEq, Repr

/-- The fields of a descriptor (R100); `res1` is `d[15:10]` and `res2` is `d[23]`. -/
structure Fields where
  op : BitVec 8
  dir : Bool
  tp : Bool
  res1 : BitVec 6
  addr7 : SlaveAddr
  res2 : Bool
  byte : Byte
  ptr : BitVec 32
  n : BitVec 16
  tmo : BitVec 16
deriving DecidableEq, Repr

/-- The field layout of R100, read from a descriptor. -/
def fieldsOf (d : Desc) : Fields where
  op := d.extractLsb' 0 8
  dir := d.getLsbD 8
  tp := d.getLsbD 9
  res1 := d.extractLsb' 10 6
  addr7 := d.extractLsb' 16 7
  res2 := d.getLsbD 23
  byte := d.extractLsb' 24 8
  ptr := d.extractLsb' 32 32
  n := d.extractLsb' 64 16
  tmo := d.extractLsb' 80 16

/-- The same layout, written: the high fields first. -/
def packFields (f : Fields) : Desc :=
  (f.tmo ++ f.n ++ f.ptr ++ f.byte ++ BitVec.ofBool f.res2 ++ f.addr7 ++ f.res1 ++ BitVec.ofBool f.tp
    ++ BitVec.ofBool f.dir ++ f.op).cast (by rfl)

/-- The formats of R101. -/
inductive Format where
  | N
  | B
  | BT
  | T
  | PT
  | BNT
  | IX
  | IS
  | H
  | V
deriving DecidableEq, Repr

/-- Formats that use `dir` (R100). -/
def usesDir : Format → Bool
  | .IX => true
  | _ => false

/-- Formats that use `tp` and `tmo` (R100). -/
def usesTmo : Format → Bool
  | .BT | .T | .PT | .BNT | .IX | .IS => true
  | _ => false

/-- Formats that use `addr7` (R100). -/
def usesAddr : Format → Bool
  | .IX | .IS => true
  | _ => false

/-- Formats that use `byte` (R100). -/
def usesByte : Format → Bool
  | .B | .BT | .V => true
  | _ => false

/-- Formats that use `ptr` (R100). -/
def usesPtr : Format → Bool
  | .PT | .BNT | .IX | .IS => true
  | _ => false

/-- Formats that use `n` (R100). -/
def usesCount : Format → Bool
  | .BNT | .IX | .IS => true
  | _ => false

/-- Every reserved bit and every field the format does not use is 0; `tmo` is used only when `tp = 1` (R101, R102,
R105). -/
def formatClean (fmt : Format) (f : Fields) : Bool :=
  f.res1 == 0 && f.res2 == false
    && (usesDir fmt || f.dir == false)
    && (usesTmo fmt || f.tp == false)
    && (f.tp || f.tmo == 0)
    && (usesAddr fmt || f.addr7 == 0)
    && (usesByte fmt || f.byte == 0)
    && (usesPtr fmt || f.ptr == 0)
    && (usesCount fmt || f.n == 0)

/-- The timeout operand: NONE when `tp = 0`, else SOME(tmo) (R102). -/
def tmoOf (f : Fields) : Option (BitVec 16) := if f.tp then some f.tmo else none

/-- The direction operand: 1 = send, 0 = receive (R100). -/
def dirOf (f : Fields) : Dir := if f.dir then .send else .recv

/-- The opcode map of R103: the format of an opcode, and the operation its fields name. -/
def opcodeRow (op : BitVec 8) : Option (Format × (Fields → Instr)) :=
  match op with
  | 0x11#8 => some (.B, fun f => .swuPutc f.byte)
  | 0x12#8 => some (.N, fun _ => .swuGetc)
  | 0x13#8 => some (.N, fun _ => .swuStatusRead)
  | 0x14#8 => some (.N, fun _ => .swuStatusClear)
  | 0x20#8 => some (.N, fun _ => .uartInit)
  | 0x21#8 => some (.N, fun _ => .uartEnable)
  | 0x22#8 => some (.N, fun _ => .uartDisable)
  | 0x23#8 => some (.BNT, fun f => .uartTransfer f.ptr f.n (tmoOf f))
  | 0x24#8 => some (.BT, fun f => .uartPutc f.byte (tmoOf f))
  | 0x25#8 => some (.PT, fun f => .uartPuts f.ptr (tmoOf f))
  | 0x26#8 => some (.T, fun f => .uartGetc (tmoOf f))
  | 0x27#8 => some (.N, fun _ => .uartStatusRead)
  | 0x28#8 => some (.N, fun _ => .uartStatusClear)
  | 0x2E#8 => some (.H, fun _ => .uartHandleTxIrq)
  | 0x2F#8 => some (.H, fun _ => .uartHandleRxIrq)
  | 0x30#8 => some (.N, fun _ => .i2cInit)
  | 0x31#8 => some (.N, fun _ => .i2cEnable)
  | 0x32#8 => some (.N, fun _ => .i2cDisable)
  | 0x33#8 => some (.IX, fun f => .i2cTransfer (dirOf f) f.addr7 f.ptr f.n (tmoOf f))
  | 0x34#8 => some (.IS, fun f => .i2cSend f.addr7 f.ptr f.n (tmoOf f))
  | 0x35#8 => some (.IS, fun f => .i2cReceive f.addr7 f.ptr f.n (tmoOf f))
  | 0x3E#8 => some (.H, fun _ => .i2cHandleTxIrq)
  | 0x3F#8 => some (.H, fun _ => .i2cHandleRxIrq)
  | 0x40#8 => some (.V, fun f => .dispatch f.byte)
  | 0x41#8 => some (.H, fun _ => .tickIsr)
  | _ => none

/-- Decode a descriptor (R100 to R103): an unassigned opcode first, then a reserved or unused field (R105). -/
def decode (d : Desc) : Except DecodeError Instr :=
  let f := fieldsOf d
  match opcodeRow f.op with
  | none => .error .unassignedOpcode
  | some (fmt, build) => if formatClean fmt f then .ok (build f) else .error .reservedField

/-- A descriptor's fields when only the opcode is not 0. -/
def opOnly (op : BitVec 8) : Fields where
  op := op
  dir := false
  tp := false
  res1 := 0
  addr7 := 0
  res2 := false
  byte := 0
  ptr := 0
  n := 0
  tmo := 0

/-- Put a timeout operand into the fields (R102). -/
def withTmo (tmo : Option (BitVec 16)) (f : Fields) : Fields :=
  match tmo with
  | none => f
  | some t => { f with tp := true, tmo := t }

/-- The `dir` bit of a direction (R100). -/
def dirBit : Dir → Bool
  | .recv => false
  | .send => true

/-- The fields of an operation's descriptor (R101, R103). -/
def encodeFields : Instr → Fields
  | .swuPutc b => { opOnly 0x11 with byte := b }
  | .swuGetc => opOnly 0x12
  | .swuStatusRead => opOnly 0x13
  | .swuStatusClear => opOnly 0x14
  | .uartInit => opOnly 0x20
  | .uartEnable => opOnly 0x21
  | .uartDisable => opOnly 0x22
  | .uartTransfer p n tmo => withTmo tmo { opOnly 0x23 with ptr := p, n := n }
  | .uartPutc b tmo => withTmo tmo { opOnly 0x24 with byte := b }
  | .uartPuts p tmo => withTmo tmo { opOnly 0x25 with ptr := p }
  | .uartGetc tmo => withTmo tmo (opOnly 0x26)
  | .uartStatusRead => opOnly 0x27
  | .uartStatusClear => opOnly 0x28
  | .uartHandleTxIrq => opOnly 0x2E
  | .uartHandleRxIrq => opOnly 0x2F
  | .i2cInit => opOnly 0x30
  | .i2cEnable => opOnly 0x31
  | .i2cDisable => opOnly 0x32
  | .i2cTransfer dir a p n tmo => withTmo tmo { opOnly 0x33 with dir := dirBit dir, addr7 := a, ptr := p, n := n }
  | .i2cSend a p n tmo => withTmo tmo { opOnly 0x34 with addr7 := a, ptr := p, n := n }
  | .i2cReceive a p n tmo => withTmo tmo { opOnly 0x35 with addr7 := a, ptr := p, n := n }
  | .i2cHandleTxIrq => opOnly 0x3E
  | .i2cHandleRxIrq => opOnly 0x3F
  | .dispatch v => { opOnly 0x40 with byte := v }
  | .tickIsr => opOnly 0x41

/-- The descriptor of an operation. -/
def encode (i : Instr) : Desc := packFields (encodeFields i)

/-- The operation the decoder reads from a table word of `nbits` bits, the bits above them 0 (R103's table). -/
def decodeTableWord (nbits w : Nat) : Option Instr :=
  (decode (BitVec.ofNat 96 (w % 2 ^ nbits))).toOption

end Sys2Proof
end

