-- ==== Sys2Proof/Machine/State.lean ====
section
/-! DEFINITION. The state of the block as plain data: every element of 10_state.md, the labels of the micro-steps
(R15), and the launch (R360). The element names follow the spec's dotted names. -/

namespace Sys2Proof.Machine

/-- The fault reasons of R345. A fault is RECORDED in `State.fault` and stops only the agent that raised it (R14, R58),
so no step of this model ends the machine with one: the type of the machine's fault outcome is this list of reasons,
and `step` never answers `.fault` (log 13). All of them are safe: the agent stops where the spec says it stops. -/
inductive Fault where
  /-- Any agent: a micro-step reads an unwritten element (R65). Safe. -/
  | unwrittenRead
  /-- FG: RELEASE of a clock with count 0 under COUNTER (R121). Safe. -/
  | releaseUnderflow
  /-- FG or IRQ: a write of `U.txbuf` or `I.txbuf` while the holding register is full (R272, R293). Safe. -/
  | txbufOverwrite
  /-- ENV.I: the slave NACKs a data byte of a send (R287). Safe. -/
  | i2cDataNack
  /-- ENV.I: a STOP requested with the engine idle, I2C_STOP_IN_IDLE = FAULT (R291). Safe. -/
  | i2cStopInIdle
  /-- ENV.I: a START requested during a data phase (R292). Safe. -/
  | i2cStartWhileBusy
deriving DecidableEq, Repr

/-- The refusal reasons of R346, and the host's own. A refusal sets `State.refused`; a step of a refused state answers
`.refused` with the reason (R14; log 13). All of them are safe: the whole state stops where the spec stops it. -/
inductive Refusal where
  /-- An instruction without a meaning in this model; no arm of `exec` answers it. Safe. -/
  | notModelled (mnemonic : String)
  /-- The launch: an ill-formed configuration (R150, R181, R220, R363). Safe. -/
  | config
  /-- FG: the opcode is not in the map (R105). Safe. -/
  | unassignedOpcode
  /-- FG: a reserved bit or an unused field is not 0 (R105). Safe. -/
  | reservedField
  /-- FG: a field is out of range (R102, R105). Safe. -/
  | fieldRange
  /-- FG: an operation of the interrupt context in `fg.prog` (R105). Safe. -/
  | handlerInForeground
  /-- FG: a buffer or string past the end of the address space (R81, R187). Safe. -/
  | bufferWraps
  /-- FG: a UART transfer or string of length 0, an I2C receive of length 0 (R185, R187, R224). Safe. -/
  | emptyTransfer
  /-- FG: a write of a value outside a register's legal set (R61). Safe. -/
  | illegalRegisterValue
  /-- FG: a transfer of a driver before its init (R364). Safe. -/
  | notInitialised
deriving DecidableEq, Repr

/-- The label of a foreground micro-step (R15, R22). `l0` is L0, the first label of whichever operation is in progress,
and `l1` to `l14` carry the number the operation's rule gives the line (P4, G9, I6, S2, X13 ...), except that R186's
C1 is `l0`. `w0` to `w5` are the lines of WAIT (R130), and `x1` to `x6` the lines of R185 that UART_PUTS continues at
(R187). Log 18. -/
inductive Label where
  | l0 | l1 | l2 | l3 | l4 | l5 | l6 | l7 | l8 | l9 | l10 | l11 | l12 | l13 | l14
  | w0 | w1 | w2 | w3 | w4 | w5
  | x1 | x2 | x3 | x4 | x6
deriving DecidableEq, Repr

/-- The label of an interrupt-context micro-step: `d` of DISPATCH (R330), `k` of TICK_ISR (R340), `t` of the transmit
handlers (R192, R230), `q` and `n` of the receive handlers (R193, R232). D1 is the called handler's first label
(R15: `call` inlines). -/
inductive IrqLabel where
  | d0 | d2 | d3
  | k0 | k1 | k2
  | t0 | t1 | t2 | t3 | t4 | t5 | t6 | t7 | t8
  | n0 | n1 | n2 | n3
  | q0 | q1 | q2 | q3 | q4 | q5 | q6 | q7 | q8 | q9
deriving DecidableEq, Repr

/-- `cpu.ctx` (R53): the foreground, or IRQ(v, j, w). -/
inductive Ctx where
  | fg
  | irq (v : Vec) (j : Nat) (w : Bool)
deriving DecidableEq, Repr

/-- The agents of R8. -/
inductive Agent where
  | fg
  | irq
  | envU
  | envI
  | envCtr
  | envTick
  | envLine
deriving DecidableEq, Repr

/-- `I.estate` (R281). -/
inductive EState where
  | idle
  | addr
  | hold
  | tx
  | rx
  | rxlast
  | stopping
deriving DecidableEq, Repr

/-- `i2c.phase` (R41). -/
inductive Phase where
  | idle
  | startSent
  | txByte
  | rxByte
  | stopSent
deriving DecidableEq, Repr

/-- The trace events of R59; `rw` is 1 for a read (R282), `ack` is 1 for an acknowledge. -/
inductive Event where
  | txLine (t : Nat) (b : Bool)
  | rxSample (t : Nat) (b : Bool)
  | uOut (v : Byte)
  | uIn (v : Byte)
  | i2cStart (a : SlaveAddr) (rw : Bool)
  | i2cAddrAck
  | i2cAddrNack
  | i2cByteOut (v : Byte) (ack : Bool)
  | i2cByteIn (v : Byte) (ack : Bool)
  | i2cStop
deriving DecidableEq, Repr

/-- The position of an agent when it raised a fault (R58): the foreground's `(k, L)` (R22), the interrupt context's `cpu.ctx`
with its label (R53; log 25). The spec gives an environment agent no position; the constant `env` stands for it, DESIGN
CHOICE (log 26). -/
inductive Position where
  | fg (k : Nat) (l : Label)
  | irq (ctx : Ctx) (l : IrqLabel)
  | env
deriving DecidableEq, Repr

/-- A recorded fault (R58). -/
structure FaultRec where
  reason : Fault
  agent : Agent
  pos : Position
deriving DecidableEq, Repr

/-- A run of admitted addresses `base .. base + len - 1` (R80). -/
structure Region where
  base : Nat
  len : Nat
deriving DecidableEq, Repr

/-- The foreground sequencer: `fg.prog`, `fg.pc = (k, label)`, `fg.ret` (R22, R23), and the foreground locals `fg.c`
(R130), `fg.s` (R157), `fg.len` and `fg.b` (R187). -/
structure Fg where
  prog : List Desc
  k : Nat
  label : Label
  ret : Reg Byte
  c : Bool
  s : Bool
  len : Nat
  b : Byte
deriving DecidableEq, Repr

/-- The software UART driver (R26 to R28). -/
structure Swu where
  framingError : Bool
  rxAvailable : Bool
  dl : Reg Nat
  sh : Reg Byte
  acc : Reg Byte
  i : Reg Nat
deriving DecidableEq, Repr

/-- The lines of the software UART (R29). -/
structure Line where
  tx : Bool
  rx : Bool
deriving DecidableEq, Repr

/-- The hardware UART driver (R30 to R32). -/
structure Uart where
  txCount : Nat
  txCursor : Nat
  txDone : Bool
  rxCount : Fin 2
  rxByte : Byte
  framingError : Bool
  rxAvailable : Bool
deriving DecidableEq, Repr

/-- The UART engine's registers and internal state (R33 to R37). -/
structure UartEngine where
  swrst : Reg Bool
  brDiv : Reg Nat
  brRem : Reg Nat
  brMod : Reg Nat
  clksel : Reg ClockId
  txIe : Reg Bool
  rxIe : Reg Bool
  txbuf : Reg Byte
  rxbuf : Reg Byte
  txReady : Reg Bool
  rxReady : Reg Bool
  txreg : Reg Byte
  txregFull : Reg Bool
  shifter : Reg Byte
  shifterFull : Reg Bool
  live : Bool
deriving DecidableEq, Repr

/-- The I2C driver (R40 to R42). -/
structure I2c where
  count : Nat
  cursor : Nat
  done : Bool
  dir : Dir
  phase : Phase
  retries : Nat
deriving DecidableEq, Repr

/-- The I2C engine's registers and internal state (R43 to R48). -/
structure I2cEngine where
  swrst : Reg Bool
  master : Reg Bool
  clksel : Reg ClockId
  presc : Reg Nat
  sa : Reg SlaveAddr
  dirTx : Reg Bool
  startReq : Reg Bool
  stopReq : Reg Bool
  txIe : Reg Bool
  rxIe : Reg Bool
  nackIe : Reg Bool
  txbuf : Reg Byte
  rxbuf : Reg Byte
  txReady : Reg Bool
  rxReady : Reg Bool
  nack : Reg Bool
  busBusy : Reg Bool
  estate : Reg EState
  txreg : Reg Byte
  txregFull : Reg Bool
  shifter : Reg Byte
  shifterFull : Reg Bool
  live : Bool
deriving DecidableEq, Repr

/-- The CPU state (R51 to R53). -/
structure Cpu where
  asleep : Bool
  gie : Bool
  ctx : Ctx
  saved : Reg Bool
deriving DecidableEq, Repr

/-- Where the interrupt context stands inside DISPATCH, a handler or TICK_ISR, the wake request `wh` or `wt` last
given (R330, R340), and the receive handler's local `r` (R232). -/
structure IrqPos where
  label : IrqLabel
  wh : Bool
  r : Byte
deriving DecidableEq, Repr

/-- The Timeout Guard (R55). -/
structure Guard where
  armed : Bool
  count : Nat
  expired : Bool
deriving DecidableEq, Repr

/-- The model's own: the choices still to come, the number of free choices drawn so far (`Config.schedule`), and the
number of free cursor values taken so far (`Config.freeCursor`). Logs 2, 11, 20. -/
structure Sched where
  script : List Choice
  drawn : Nat
  freed : Nat
deriving DecidableEq, Repr

/-- The state of the block. -/
structure State where
  /-- The parameters of R11; no step writes them (log 3). -/
  cfg : Params
  /-- The foreground sequencer (R22, R23). -/
  fg : Fg
  /-- The software UART driver (R26 to R28). -/
  swu : Swu
  /-- The software UART's lines (R29). -/
  line : Line
  /-- The hardware UART driver (R30 to R32). -/
  uart : Uart
  /-- The UART engine `U.` (R33 to R37). -/
  ueng : UartEngine
  /-- The I2C driver (R40 to R42). -/
  i2c : I2c
  /-- The I2C engine `I.` (R43 to R48). -/
  ieng : I2cEngine
  /-- `clk.claims(c)` at index `c`, 0 where the list ends (R50; log 14). -/
  claims : List Nat
  /-- Sleep, interrupt mask, context (R51 to R53). -/
  cpu : Cpu
  /-- Where the interrupt context stands in its body (R15, R330; log 25). -/
  irq : IrqPos
  /-- `tick.pending` (R54). -/
  tickPending : Bool
  /-- The Timeout Guard (R55). -/
  tg : Guard
  /-- The free-running counter `ctr` (R56), below `2^CTR_W`. -/
  ctr : Nat
  /-- The buffer memory (R57, R80) in canonical form: Machine/Memory.lean. -/
  mem : List Host.Cell
  /-- The admitted addresses ADM (R80). -/
  adm : List Region
  /-- The recorded faults, oldest first (R58). -/
  fault : List FaultRec
  /-- The refused mark (R58). -/
  refused : Option Refusal
  /-- The line and bus events, oldest first (R59). -/
  trace : List Event
  /-- The model's own: which agent moves next, and what it draws (log 2). -/
  sched : Sched
deriving DecidableEq, Repr

/-! ### Updates. Each replaces one element; Laws/State.lean says what each leaves. -/

/-- Replace `fg`. -/
def State.setFg (s : State) (x : Fg) : State := { s with fg := x }

/-- Replace `swu`. -/
def State.setSwu (s : State) (x : Swu) : State := { s with swu := x }

/-- Replace `line`. -/
def State.setLine (s : State) (x : Line) : State := { s with line := x }

/-- Replace `uart`. -/
def State.setUart (s : State) (x : Uart) : State := { s with uart := x }

/-- Replace `ueng`. -/
def State.setUeng (s : State) (x : UartEngine) : State := { s with ueng := x }

/-- Replace `i2c`. -/
def State.setI2c (s : State) (x : I2c) : State := { s with i2c := x }

/-- Replace `ieng`. -/
def State.setIeng (s : State) (x : I2cEngine) : State := { s with ieng := x }

/-- Replace `claims`. -/
def State.setClaims (s : State) (x : List Nat) : State := { s with claims := x }

/-- Replace `cpu`. -/
def State.setCpu (s : State) (x : Cpu) : State := { s with cpu := x }

/-- Replace `irq`. -/
def State.setIrq (s : State) (x : IrqPos) : State := { s with irq := x }

/-- Replace `tickPending`. -/
def State.setTickPending (s : State) (x : Bool) : State := { s with tickPending := x }

/-- Replace `tg`. -/
def State.setTg (s : State) (x : Guard) : State := { s with tg := x }

/-- Replace `ctr`. -/
def State.setCtr (s : State) (x : Nat) : State := { s with ctr := x }

/-- Replace `mem`. -/
def State.setMem (s : State) (x : List Host.Cell) : State := { s with mem := x }

/-- Replace `sched`. -/
def State.setSched (s : State) (x : Sched) : State := { s with sched := x }

/-- `emit e` (R15). -/
def State.emit (s : State) (e : Event) : State := { s with trace := s.trace ++ [e] }

/-- `refuse(reason)` (R14): the whole state is marked. -/
def State.refuse (s : State) (r : Refusal) : State := { s with refused := some r }

/-- Where an agent stands (R58); `env` for every environment agent, which the spec gives no position (DESIGN CHOICE,
log 26). -/
def State.position (s : State) : Agent → Position
  | .fg => .fg s.fg.k s.fg.label
  | .irq => .irq s.cpu.ctx s.irq.label
  | _ => .env

/-- `raise Fault(reason)` by an agent (R14, R58): recorded with the agent and its position. -/
def State.raise (s : State) (a : Agent) (r : Fault) : State :=
  { s with fault := s.fault ++ [{ reason := r, agent := a, pos := s.position a }] }

/-- The foreground goes to a label of the same operation (R22). -/
def State.goto (s : State) (l : Label) : State := { s with fg := { s.fg with label := l } }

/-- `done`: the foreground goes to the next operation (R15, R22). -/
def State.done (s : State) : State := { s with fg := { s.fg with k := s.fg.k + 1, label := .l0 } }

/-- The interrupt context goes to a label of its body. -/
def State.irqGoto (s : State) (l : IrqLabel) : State := { s with irq := { s.irq with label := l } }

/-- A called handler returns the wake request `w` to D2 (R330, R335). -/
def State.irqReturn (s : State) (w : Bool) : State := { s with irq := { s.irq with label := .d2, wh := w } }

/-! ### Reset -/

/-- The UART engine at launch: every register unwritten, not live (R63). -/
def UartEngine.reset : UartEngine where
  swrst := .unwritten
  brDiv := .unwritten
  brRem := .unwritten
  brMod := .unwritten
  clksel := .unwritten
  txIe := .unwritten
  rxIe := .unwritten
  txbuf := .unwritten
  rxbuf := .unwritten
  txReady := .unwritten
  rxReady := .unwritten
  txreg := .unwritten
  txregFull := .unwritten
  shifter := .unwritten
  shifterFull := .unwritten
  live := false

/-- The I2C engine at launch: every register unwritten, not live (R63). -/
def I2cEngine.reset : I2cEngine where
  swrst := .unwritten
  master := .unwritten
  clksel := .unwritten
  presc := .unwritten
  sa := .unwritten
  dirTx := .unwritten
  startReq := .unwritten
  stopReq := .unwritten
  txIe := .unwritten
  rxIe := .unwritten
  nackIe := .unwritten
  txbuf := .unwritten
  rxbuf := .unwritten
  txReady := .unwritten
  rxReady := .unwritten
  nack := .unwritten
  busBusy := .unwritten
  estate := .unwritten
  txreg := .unwritten
  txregFull := .unwritten
  shifter := .unwritten
  shifterFull := .unwritten
  live := false

/-- What the launch gives (R360 to R367): the program, the memory with its admitted set, and the draws of R56 and
R29. -/
structure Launch where
  prog : List Desc
  mem : List Host.Cell
  adm : List Region
  ctr : Nat
  lineTx : Bool
  lineRx : Bool
deriving DecidableEq, Repr

/-- The launch state (R63, R360 to R363, R367): the reset values, interrupts enabled, and the CONFIG refusal of an
ill-formed configuration. The locals, the interrupt position and `sched` hold values of the model (logs 10, 20). -/
def State.launch (c : Params) (g : Launch) : State where
  cfg := c
  fg := { prog := g.prog, k := 0, label := .l0, ret := .unwritten, c := false, s := false, len := 0, b := 0 }
  swu := { framingError := false, rxAvailable := false, dl := .unwritten, sh := .unwritten, acc := .unwritten,
           i := .unwritten }
  line := { tx := g.lineTx, rx := g.lineRx }
  uart := { txCount := 0, txCursor := 0, txDone := false, rxCount := 0, rxByte := 0, framingError := false,
            rxAvailable := false }
  ueng := UartEngine.reset
  i2c := { count := 0, cursor := 0, done := false, dir := .recv, phase := .idle, retries := 0 }
  ieng := I2cEngine.reset
  claims := []
  cpu := { asleep := false, gie := true, ctx := .fg, saved := .unwritten }
  irq := { label := .d0, wh := false, r := 0 }
  tickPending := false
  tg := { armed := false, count := 0, expired := false }
  ctr := g.ctr
  mem := g.mem
  adm := g.adm
  fault := []
  refused := if c.configOk then none else some .config
  trace := []
  sched := { script := [], drawn := 0, freed := 0 }

/-- The launch of the reset state: no program, nothing listed in memory, every address of the address space admitted,
the counter at 0 and both lines at the idle level 1 (DESIGN CHOICE, logs 5 to 8). -/
def Launch.reset : Launch where
  prog := []
  mem := []
  adm := [{ base := 0, len := 2 ^ 16 }]
  ctr := 0
  lineTx := true
  lineRx := true

/-- The machine right after reset: the launch under the configuration of 95_test_vectors.md section 0 (R360; log 3). -/
def State.reset : State := State.launch Params.vectors Launch.reset

end Sys2Proof.Machine
end

