-- ==== Sys2Proof/Machine/Memory.lean ====
section
/-! DEFINITION. The buffer memory (R57, R80): a list of (address, byte) pairs with addresses strictly rising and no
entry equal to what an unlisted address reads as, so that equal memories are equal data; and the admitted set. -/

namespace Sys2Proof.Machine

/-- What an unlisted address reads as. The spec gives the launch's contents and no value: DESIGN CHOICE (log 6). -/
def memDefault : Byte := 0

/-- The byte at an address (R80). -/
def memGet : List Host.Cell → Nat → Byte
  | [], _ => memDefault
  | (b, v) :: m, a => if b = a then v else memGet m a

/-- The entry for a byte: none for the value an unlisted address reads as. -/
def memEntry (a : Nat) (v : Byte) : List Host.Cell := if v = memDefault then [] else [(a, v)]

/-- Set the byte at an address, keeping the canonical form (R80). -/
def memSet : List Host.Cell → Nat → Byte → List Host.Cell
  | [], a, v => memEntry a v
  | (b, w) :: m, a, v =>
    if a < b then memEntry a v ++ (b, w) :: m
    else if a = b then memEntry a v ++ m
    else (b, w) :: memSet m a v

/-- Every entry's address is above `lo` (none: no bound), the addresses rise strictly, and no entry holds the default
value. -/
def memSorted : Option Nat → List Host.Cell → Bool
  | _, [] => true
  | lo, (b, v) :: m => (match lo with | none => true | some l => decide (l < b)) && v != memDefault && memSorted (some b) m

/-- The canonical form of a memory. -/
def Memory.wf (m : List Host.Cell) : Bool := memSorted none m

/-- Is the address admitted: in the address space and in ADM (R80)? -/
def State.admitted (s : State) (a : Nat) : Bool :=
  a < 2 ^ s.cfg.addrW && s.adm.any fun r => r.base ≤ a && a < r.base + r.len

/-- `MemRead(a, 1)` (R14, R80): goes on with the byte; where the address is not admitted the micro-step has no step,
and the agent stays where it is (log 24). -/
def memRead (a : Nat) (s : State) (k : Byte → State) : State :=
  if s.admitted a then k (memGet s.mem a) else s

/-- `MemWrite(a, 1, v)` (R14, R80), likewise. -/
def memWrite (a : Nat) (v : Byte) (s : State) (k : State → State) : State :=
  if s.admitted a then k (s.setMem (memSet s.mem a v)) else s

end Sys2Proof.Machine
end

