-- ==== Sys2Proof/Machine/Flags.lean ====
section
/-! DEFINITION. The predicates on flags: the probe of a handler (R333), the interrupt requests (R322 to R324),
acceptance (R325), the status byte (R133, R135), the deadline comparison (R151), and clock gating (R279, R280). -/

namespace Sys2Proof.Machine

/-- A 1-bit element holds 1; an unwritten one does not. This is the term of a request (R322) and the first-line probe
of a handler (R333). -/
def isOne (r : Reg Bool) : Bool := r == .written true

/-- UART transmit-ready request (R322). -/
def reqUartTx (s : State) : Bool := isOne s.ueng.txReady && isOne s.ueng.txIe

/-- UART receive-ready request (R322). -/
def reqUartRx (s : State) : Bool := isOne s.ueng.rxReady && isOne s.ueng.rxIe

/-- I2C transmit-ready request (R322). -/
def reqI2cTx (s : State) : Bool := isOne s.ieng.txReady && isOne s.ieng.txIe

/-- I2C receive-ready request (R322). -/
def reqI2cRx (s : State) : Bool := isOne s.ieng.rxReady && isOne s.ieng.rxIe

/-- I2C address NACK request (R322). -/
def reqI2cNack (s : State) : Bool := isOne s.ieng.nack && isOne s.ieng.nackIe

/-- `req(v)` (R323), under VECTOR_MAP; false for a vector the map does not have. -/
def req (s : State) : Vec → Bool
  | .vm => s.cfg.vectorMap == .onePerModule
      && (reqUartTx s || reqUartRx s || reqI2cTx s || reqI2cRx s || reqI2cNack s)
  | .vmTx => s.cfg.vectorMap == .splitTxRx && (reqUartTx s || reqI2cTx s)
  | .vmRx => s.cfg.vectorMap == .splitTxRx && (reqUartRx s || reqI2cRx s || reqI2cNack s)
  | .vt => s.tickPending

/-- A vector is acceptable (R325). -/
def acceptable (s : State) (v : Vec) : Bool := s.cpu.ctx == .fg && s.cpu.gie && req s v

/-- Some vector is acceptable, so that FG has no step (R326). -/
def anyAcceptable (s : State) : Bool :=
  acceptable s .vm || acceptable s .vmTx || acceptable s .vmRx || acceptable s .vt

/-- `zext_8(framing_error ++ rx_available)` (R133, R135). -/
def statusByte (framingError rxAvailable : Bool) : Byte :=
  (BitVec.ofBool framingError ++ BitVec.ofBool rxAvailable).setWidth 8

/-- `reached(t, dl)` on CTR_W bits, under CTR_COMPARE (R151). -/
def reached (c : Params) (t dl : Nat) : Bool :=
  match c.ctrCompare with
  | .wrapAware => (t + 2 ^ c.ctrW - dl % 2 ^ c.ctrW) % 2 ^ c.ctrW < 2 ^ (c.ctrW - 1)
  | .unsignedGe => dl ≤ t
  | .equal => t == dl

/-- `clk.claims(c)`. -/
def claimCount (claims : List Nat) (c : ClockId) : Nat := claims.getD c 0

/-- `claimed(c)` (R122). -/
def claimed (s : State) (c : ClockId) : Bool := 0 < claimCount s.claims c

/-- An engine's clock runs (R279, R280): always, unless the CPU sleeps, sleep gates unclaimed clocks and no claim
holds the clock; an unselected clock has no claim (log 23). -/
def clockRuns (s : State) (sel : Reg ClockId) : Bool :=
  !s.cfg.sleepGates || (match sel with | .written c => claimed s c | .unwritten => false) || !s.cpu.asleep

/-- The UART engine is running (R279). -/
def uartRunning (s : State) : Bool := s.ueng.live && s.ueng.swrst == .written false && clockRuns s s.ueng.clksel

/-- The I2C engine is running (R280). -/
def i2cRunning (s : State) : Bool := s.ieng.live && s.ieng.swrst == .written false && clockRuns s s.ieng.clksel

/-- An agent that raised a fault has no further step (R14, R345). -/
def stopped (s : State) (a : Agent) : Bool := s.fault.any fun f => f.agent == a

end Sys2Proof.Machine
end

