-- ==== Sys2Proof/Machine/Ops.lean ====
section
/-! DEFINITION. The shared operations: register access with its side effects, clock claims, the Timeout Guard, the wait
loop, and the entry and exit of the interrupt context. An operation that can stop the agent takes what follows it as
its last argument `k`, which runs only when it does not. -/

namespace Sys2Proof.Machine

/-! ### Reading and writing registers -/

/-- Read an element by a micro-step of `ag`: an unwritten one raises UNWRITTEN_READ (R65, R345), and
nothing of the line is done (log 21). -/
def fetch {α : Type} (ag : Agent) (r : Reg α) (s : State) (k : α → State) : State :=
  match r with
  | .written v => k v
  | .unwritten => s.raise ag .unwrittenRead

/-- Write a register whose legal set is limited: an illegal value refuses (R61). -/
def writeLegal (legal : Bool) (s : State) (k : State) : State :=
  if legal then k else s.refuse .illegalRegisterValue

/-- `U.txbuf <- v` (R272). The register itself then holds `v` (R35; log 17). -/
def writeUartTxbuf (ag : Agent) (v : Byte) (s : State) (k : State → State) : State :=
  fetch ag s.ueng.txregFull s fun full =>
    if full then s.raise ag .txbufOverwrite
    else k (s.setUeng { s.ueng with
      txbuf := .written v, txreg := .written v, txregFull := .written true, txReady := .written false })

/-- `I.txbuf <- v` (R293). -/
def writeI2cTxbuf (ag : Agent) (v : Byte) (s : State) (k : State → State) : State :=
  fetch ag s.ieng.txregFull s fun full =>
    if full then s.raise ag .txbufOverwrite
    else k (s.setIeng { s.ieng with
      txbuf := .written v, txreg := .written v, txregFull := .written true, txReady := .written false })

/-- A read of `U.rxbuf`, which clears `U.rx_ready` (R276). -/
def readUartRxbuf (ag : Agent) (s : State) (k : Byte → State → State) : State :=
  fetch ag s.ueng.rxbuf s fun v => k v (s.setUeng { s.ueng with rxReady := .written false })

/-- A read of `I.rxbuf`, which clears `I.rx_ready` (R294). -/
def readI2cRxbuf (ag : Agent) (s : State) (k : Byte → State → State) : State :=
  fetch ag s.ieng.rxbuf s fun v => k v (s.setIeng { s.ieng with rxReady := .written false })

/-- The engine's part of the release of the UART engine from software reset (R271). -/
def uartRelease (e : UartEngine) : UartEngine :=
  { e with txReady := .written true, rxReady := .written false, txregFull := .written false,
           shifterFull := .written false, live := true }

/-- `U.swrst <- b`: a 0 over a 1 releases the engine (R271); a 1 holds it (R277). A 0 over an `unwritten` is a case R271 does
not give: it writes the 0, and neither releases nor faults (DESIGN CHOICE, log 27). -/
def writeUartSwrst (b : Bool) (s : State) : State :=
  if b = false ∧ s.ueng.swrst = .written true then
    s.setUeng (uartRelease { s.ueng with swrst := .written false })
  else s.setUeng { s.ueng with swrst := .written b }

/-- The engine's part of the release of the I2C engine from software reset (R280). -/
def i2cRelease (e : I2cEngine) : I2cEngine :=
  { e with txReady := .written false, rxReady := .written false, nack := .written false, busBusy := .written false,
           startReq := .written false, stopReq := .written false, txregFull := .written false,
           shifterFull := .written false, estate := .written .idle, live := true }

/-- `I.swrst <- b`: a 0 over a 1 releases the engine and returns `i2c.phase` to IDLE (R280). A 0 over an `unwritten` is a
case R280 does not give: it writes the 0, and neither releases nor faults (DESIGN CHOICE, log 27). -/
def writeI2cSwrst (b : Bool) (s : State) : State :=
  if b = false ∧ s.ieng.swrst = .written true then
    (s.setIeng (i2cRelease { s.ieng with swrst := .written false })).setI2c { s.i2c with phase := .idle }
  else s.setIeng { s.ieng with swrst := .written b }

/-- The cursor after an access at `a`: `a + 1` (R82), or a free value of ADDR_W bits where that sum does not fit
(R13, R81; log 11). -/
def cursorAfter (s : State) (a : Nat) : Nat :=
  if a + 1 < 2 ^ s.cfg.addrW then a + 1 else Config.freeCursor s.sched.freed % 2 ^ s.cfg.addrW

/-- Count a free cursor value as taken (log 11). -/
def takeFree (s : State) (a : Nat) : State :=
  if a + 1 < 2 ^ s.cfg.addrW then s else s.setSched { s.sched with freed := s.sched.freed + 1 }

/-! ### Clock claims -/

/-- Write `clk.claims(c)`; a list too short is filled with 0, which is what it read as. -/
def setClaim : List Nat → ClockId → Nat → List Nat
  | [], 0, v => [v]
  | [], c + 1, v => 0 :: setClaim [] c v
  | _ :: l, 0, v => v :: l
  | x :: l, c + 1, v => x :: setClaim l c v

/-- CLAIM(c) (R120). -/
def claim (c : ClockId) (s : State) : State :=
  s.setClaims (setClaim s.claims c
    (match s.cfg.claimKind with
     | .counter => claimCount s.claims c + 1
     | .boolean => 1))

/-- RELEASE(c) (R121). -/
def release (ag : Agent) (c : ClockId) (s : State) (k : State → State) : State :=
  match s.cfg.claimKind with
  | .counter =>
    if claimCount s.claims c = 0 then s.raise ag .releaseUnderflow
    else k (s.setClaims (setClaim s.claims c (claimCount s.claims c - 1)))
  | .boolean => k (s.setClaims (setClaim s.claims c 0))

/-! ### The Timeout Guard -/

/-- TG_ARM(t) (R125). -/
def tgArm (t : Nat) (s : State) : State := s.setTg { armed := true, count := t, expired := t == 0 }

/-- TG_TICK's new guard (R126). -/
def tgTick (g : Guard) : Guard :=
  if g.armed && !g.expired then
    { g with count := g.count - 1, expired := g.count - 1 == 0 }
  else g

/-- TG_TICK's wake request (R126), under TICK_WAKE. -/
def tgWake (c : Params) (g : Guard) : Bool :=
  if g.armed && !g.expired then g.count - 1 == 0
  else g.armed && g.expired && c.tickWake == .everyTickWhileExpired

/-- TG_TRIGGERED(tmo_op) (R127). -/
def tgTriggered (tmo : Option Nat) (g : Guard) : Bool := tmo.isSome && g.expired

/-- TG_DISARM (R128). -/
def tgDisarm (s : State) : State := s.setTg { s.tg with armed := false }

/-! ### The wait loop -/

/-- One micro-step of WAIT(cond, tmo_op) (R130, R131), at the foreground's `w` label; `exit` is the caller's label
after it. A label of another line is no line of WAIT. R131 has no `w2` and no `w3`: a foreground that stands there with
WAIT_CHECK_SLEEP_ATOMIC true, which no run from a launch reaches, takes R130's line (DESIGN CHOICE, log 30). -/
def waitStep (cond : Bool) (tmo : Option Nat) (exit : Label) (s : State) : State :=
  match s.fg.label with
  | .w0 => (match tmo with | some t => tgArm t s | none => s).goto .w1
  | .w1 =>
    if s.cfg.waitAtomic then
      if cond || tgTriggered tmo s.tg then s.goto .w5 else (s.setCpu { s.cpu with asleep := true }).goto .w4
    else (s.setFg { s.fg with c := cond || tgTriggered tmo s.tg }).goto .w2
  | .w2 => if s.fg.c then s.goto .w5 else s.goto .w3
  | .w3 => (s.setCpu { s.cpu with asleep := true }).goto .w4
  | .w4 => if s.cpu.asleep then s else s.goto .w1
  | .w5 => (if tmo.isSome then tgDisarm s else s).goto exit
  | _ => s

/-- `hold until P` (R10, R14): no step while `P` is false. -/
def holdUntil (p : Bool) (s : State) (k : State) : State := if p then k else s

/-! ### Entry and exit of the interrupt context -/

/-- ENTER(v) (R327): sleep is saved and left, interrupts are masked, the context becomes IRQ(v, 0, 0), and the body of
`v` starts at its first label. `fg.pc` stays. -/
def irqEnter (v : Vec) (s : State) : State :=
  (s.setCpu { asleep := false, gie := false, ctx := .irq v 0 false, saved := .written s.cpu.asleep }).irqGoto
    (if v = .vt then .k0 else .d0)

/-- EXIT with wake request `w` (R338). -/
def irqExit (w : Bool) (s : State) : State :=
  fetch .irq s.cpu.saved s fun saved =>
    s.setCpu { s.cpu with gie := true, asleep := saved && !w, ctx := .fg }

/-- A driver's transfer reached before its init is refused (R364). -/
def requireLive (live : Bool) (s : State) (k : State) : State := if live then k else s.refuse .notInitialised

end Sys2Proof.Machine
end

