-- ==== Sys2Proof/Machine/Status.lean ====
section
/-! DEFINITION. The four status operations (R133 to R136), each one micro-step S0. A label that is no line of the
operation has no micro-step, here and in every family: the state stays as it is (log 1; its one exception is log 30). -/

namespace Sys2Proof.Machine

/-- `fg.ret <- v` (R23). -/
def setRet (v : Byte) (s : State) : State := s.setFg { s.fg with ret := .written v }

/-- SWU_STATUS_READ (R133). -/
def execSwuStatusRead (s : State) : Host.Outcome State Fault Refusal :=
  .next <| match s.fg.label with
  | .l0 => (setRet (statusByte s.swu.framingError s.swu.rxAvailable) s).done
  | _ => s

/-- SWU_STATUS_CLEAR (R134). -/
def execSwuStatusClear (s : State) : Host.Outcome State Fault Refusal :=
  .next <| match s.fg.label with
  | .l0 => (s.setSwu { s.swu with framingError := false, rxAvailable := false }).done
  | _ => s

/-- UART_STATUS_READ (R135). -/
def execUartStatusRead (s : State) : Host.Outcome State Fault Refusal :=
  .next <| match s.fg.label with
  | .l0 => (setRet (statusByte s.uart.framingError s.uart.rxAvailable) s).done
  | _ => s

/-- UART_STATUS_CLEAR (R136). -/
def execUartStatusClear (s : State) : Host.Outcome State Fault Refusal :=
  .next <| match s.fg.label with
  | .l0 => (s.setUart { s.uart with framingError := false, rxAvailable := false }).done
  | _ => s

end Sys2Proof.Machine
end

