-- ==== Sys2Proof/Machine/I2c.lean ====
section
/-! DEFINITION. The I2C master driver (43_i2c.md) and its two interrupt handlers, line by line. -/

namespace Sys2Proof.Machine

/-- I2C_INIT (R221), lines I0 to I7. -/
def execI2cInit (s : State) : Host.Outcome State Fault Refusal :=
  .next <| match s.fg.label with
  | .l0 => (writeI2cSwrst true s).goto .l1
  | .l1 => (s.setIeng { s.ieng with master := .written true }).goto .l2
  | .l2 => writeLegal (s.cfg.isClock s.cfg.clkB) s
      ((s.setIeng { s.ieng with clksel := .written s.cfg.clkB }).goto .l3)
  | .l3 => writeLegal (1 ≤ s.cfg.i2cDiv && s.cfg.i2cDiv < 2 ^ s.cfg.brW) s
      ((s.setIeng { s.ieng with presc := .written s.cfg.i2cDiv }).goto .l4)
  | .l4 => (writeI2cSwrst false s).goto .l5
  | .l5 => (s.setIeng { s.ieng with txIe := .written true }).goto .l6
  | .l6 => (s.setIeng { s.ieng with rxIe := .written true }).goto .l7
  | .l7 => (s.setIeng { s.ieng with nackIe := .written true }).done
  | _ => s

/-- I2C_ENABLE (R222): one claim of CLK_B. -/
def execI2cEnable (s : State) : Host.Outcome State Fault Refusal :=
  .next <| match s.fg.label with
  | .l0 => (claim s.cfg.clkB s).done
  | _ => s

/-- I2C_DISABLE (R223): one release of CLK_B. -/
def execI2cDisable (s : State) : Host.Outcome State Fault Refusal :=
  .next <| match s.fg.label with
  | .l0 => release .fg s.cfg.clkB s State.done
  | _ => s

/-- `I.start_req <- 1` (R44). -/
def requestStart (s : State) : State := s.setIeng { s.ieng with startReq := .written true }

/-- `I.stop_req <- 1` (R44). -/
def requestStop (s : State) : State := s.setIeng { s.ieng with stopReq := .written true }

/-- One micro-step of the transfer of R224, lines X0 to X14; R227 and R228 are its two fixed directions. -/
def i2cTransferStep (dir : Dir) (a : SlaveAddr) (p n : Nat) (tmo : Option Nat) (s : State) : State :=
  match s.fg.label with
  | .l0 => requireLive s.ieng.live s <|
      if bufferWraps s.cfg p n then s.refuse .bufferWraps
      else if dir = .recv ∧ n = 0 then s.refuse .emptyTransfer
      else s.goto .l1
  | .l1 => (claim s.cfg.clkB s).goto .l2
  | .l2 => (s.setIeng { s.ieng with dirTx := .written (dir == .send) }).goto .l3
  | .l3 => (s.setIeng { s.ieng with sa := .written a }).goto .l4
  | .l4 => (s.setI2c { s.i2c with count := n }).goto .l5
  | .l5 => (s.setI2c { s.i2c with cursor := p }).goto .l6
  | .l6 => (s.setI2c { s.i2c with done := false }).goto .l7
  | .l7 => (s.setI2c { s.i2c with dir := dir }).goto .l8
  | .l8 => (requestStart s).goto .l9
  | .l9 => if dir = .recv ∧ n = 1 then s.goto .l10 else s.goto .w0
  | .l10 => fetch .fg s.ieng.startReq s fun r => holdUntil (!r) s (s.goto .l11)
  | .l11 => (requestStop s).goto .w0
  | .l13 => fetch .fg s.ieng.busBusy s fun r => holdUntil (!r) s (s.goto .l14)
  | .l14 => release .fg s.cfg.clkB s State.done
  | _ => waitStep s.i2c.done tmo .l13 s

/-- I2C_TRANSFER dir, a, [p, n], tmo (R224). -/
def execI2cTransfer (dir : Dir) (a : SlaveAddr) (p : BitVec 32) (n : BitVec 16) (tmo : Option (BitVec 16))
    (s : State) : Host.Outcome State Fault Refusal :=
  .next (i2cTransferStep dir a p.toNat n.toNat (tmoOp tmo) s)

/-- I2C_SEND a, [p, n], tmo (R227). -/
def execI2cSend (a : SlaveAddr) (p : BitVec 32) (n : BitVec 16) (tmo : Option (BitVec 16)) (s : State) :
    Host.Outcome State Fault Refusal :=
  .next (i2cTransferStep .send a p.toNat n.toNat (tmoOp tmo) s)

/-- I2C_RECEIVE a, [p, n], tmo (R228). -/
def execI2cReceive (a : SlaveAddr) (p : BitVec 32) (n : BitVec 16) (tmo : Option (BitVec 16)) (s : State) :
    Host.Outcome State Fault Refusal :=
  .next (i2cTransferStep .recv a p.toNat n.toNat (tmoOp tmo) s)

/-- `i2c.cursor <- i2c.cursor + 1` (R230 T3, R232 Q5; log 11 for a sum that does not fit). -/
def bumpI2cCursor (s : State) : State :=
  (takeFree s s.i2c.cursor).setI2c { s.i2c with cursor := cursorAfter s s.i2c.cursor }

/-- `i2c.count <- i2c.count - 1` (R230 T4, R232 Q6). -/
def decI2cCount (s : State) : State := s.setI2c { s.i2c with count := s.i2c.count - 1 }

/-- `i2c.done <- 1`. -/
def setI2cDone (s : State) : State := s.setI2c { s.i2c with done := true }

/-- I2C_HANDLE_TX_IRQ (R230), lines T0 to T8. -/
def execI2cHandleTxIrq (s : State) : Host.Outcome State Fault Refusal :=
  .next <| match s.irq.label with
  | .t0 => if isOne s.ieng.txReady then s.irqGoto .t1 else s.irqReturn false
  | .t1 => if 0 < s.i2c.count then s.irqGoto .t2 else s.irqGoto .t5
  | .t2 => memRead s.i2c.cursor s fun v => writeI2cTxbuf .irq v s fun s => s.irqGoto .t3
  | .t3 => (bumpI2cCursor s).irqGoto .t4
  | .t4 => (decI2cCount s).irqReturn false
  | .t5 => (requestStop s).irqGoto .t6
  | .t6 => (setI2cDone s).irqGoto .t7
  | .t7 => (match s.cfg.i2cTxExhaust with
      | .clearFlag => s.setIeng { s.ieng with txReady := .written false }
      | .none => s).irqGoto .t8
  | .t8 => s.irqReturn true
  | _ => s

/-- Does line Q1 assert STOP at this count (R232, R233)? -/
def preStop (c : Params) (count : Nat) : Bool :=
  match c.rxStopPolicy with
  | .preLe2 => count ≤ 2
  | .preEq2 => count == 2
  | .postEq1 => false

/-- Does line Q7 assert STOP at this count (R232, R233)? -/
def postStop (c : Params) (count : Nat) : Bool :=
  match c.rxStopPolicy with
  | .postEq1 => count == 1
  | .preLe2 => false
  | .preEq2 => false

/-- I2C_HANDLE_RX_IRQ (R232), lines N0 to N3 and Q0 to Q9. -/
def execI2cHandleRxIrq (s : State) : Host.Outcome State Fault Refusal :=
  .next <| match s.irq.label with
  | .n0 => if isOne s.ieng.nack then s.irqGoto .n1 else s.irqGoto .q0
  | .n1 => (s.setIeng { s.ieng with nack := .written false }).irqGoto .n2
  | .n2 => ((requestStart s).setI2c { s.i2c with retries := s.i2c.retries + 1 }).irqGoto .n3
  | .n3 => s.irqReturn false
  | .q0 => if isOne s.ieng.rxReady then s.irqGoto .q1 else s.irqReturn false
  | .q1 => (if preStop s.cfg s.i2c.count then requestStop s else s).irqGoto .q2
  | .q2 => readI2cRxbuf .irq s fun v t => (t.setIrq { t.irq with r := v }).irqGoto .q3
  | .q3 => if s.i2c.count = 0 then s.irqReturn false else s.irqGoto .q4
  | .q4 => memWrite s.i2c.cursor s.irq.r s fun s => s.irqGoto .q5
  | .q5 => (bumpI2cCursor s).irqGoto .q6
  | .q6 => (decI2cCount s).irqGoto .q7
  | .q7 => (if postStop s.cfg s.i2c.count then requestStop s else s).irqGoto .q8
  | .q8 => if s.i2c.count = 0 then (setI2cDone s).irqReturn true else s.irqGoto .q9
  | .q9 => s.irqReturn false
  | _ => s

end Sys2Proof.Machine
end

