-- ==== Sys2Proof/Machine/Interrupts.lean ====
section
/-! DEFINITION. The bodies of the vectors (60_exceptions.md): the dispatcher and the tick handler. -/

namespace Sys2Proof.Machine

/-- A handler's first label (R192, R193, R230, R232). -/
def handlerEntry : Handler → IrqLabel
  | .uartTx => .t0
  | .uartRx => .q0
  | .i2cTx => .t0
  | .i2cRx => .n0

/-- DISPATCH v (R330), lines D0, D2 and D3; D1 is the called handler's own lines. -/
def execDispatch (num : Byte) (s : State) : Host.Outcome State Fault Refusal :=
  .next <| match s.cpu.ctx, vecOf s.cfg num with
  | .irq v j w, some v' =>
    if v = v' then
      match s.irq.label with
      | .d0 =>
        (match (s.cfg.dispatchOrder v)[j]? with
         | none => s.irqGoto .d3
         | some h => s.irqGoto (handlerEntry h))
      | .d2 =>
        (s.setCpu { s.cpu with ctx := .irq v (j + 1) (w || s.irq.wh) }).irqGoto
          (if s.cfg.shortCircuit && (w || s.irq.wh) then .d3 else .d0)
      | .d3 => irqExit w s
      | _ => s
    else s
  | _, _ => s

/-- TICK_ISR (R340), lines K0 to K2. -/
def execTickIsr (s : State) : Host.Outcome State Fault Refusal :=
  .next <| match s.irq.label with
  | .k0 => (s.setTickPending false).irqGoto .k1
  | .k1 => ((s.setTg (tgTick s.tg)).setIrq { s.irq with wh := tgWake s.cfg s.tg }).irqGoto .k2
  | .k2 => irqExit s.irq.wh s
  | _ => s

end Sys2Proof.Machine
end

