-- ==== Sys2Proof/Machine/Swuart.lean ====
section
/-! DEFINITION. The software bit-banged UART (41_swuart.md): SWU_PUTC and SWU_GETC, line by line. -/

namespace Sys2Proof.Machine

/-- `swu.dl <- (swu.dl + ticks) mod 2^CTR_W`, the running deadline (R154, R157). -/
def addDeadline (dl ticks : Nat) (s : State) : State :=
  s.setSwu { s.swu with dl := .written ((dl + ticks) % 2 ^ s.cfg.ctrW) }

/-- `hold until reached(ctr, swu.dl)`, going on with `k` (R152). -/
def holdDeadline (s : State) (k : State) : State :=
  fetch .fg s.swu.dl s fun dl => holdUntil (reached s.cfg s.ctr dl) s k

/-- `line.tx <- b; emit TXLINE(ctr, b)` (R154). -/
def driveTx (b : Bool) (s : State) : State := (s.setLine { s.line with tx := b }).emit (.txLine s.ctr b)

/-- `fg.s <- line.rx; emit RXSAMPLE(ctr, fg.s)` (R157). -/
def sampleRx (s : State) : State := (s.setFg { s.fg with s := s.line.rx }).emit (.rxSample s.ctr s.line.rx)

/-- `acc | (b << i)` on a byte (R157). -/
def orBit (acc : Byte) (b : Bool) (i : Nat) : Byte := acc ||| ((BitVec.ofBool b).setWidth 8 <<< i)

/-- SWU_PUTC b (R154), lines P0 to P10. -/
def execSwuPutc (b : Byte) (s : State) : Host.Outcome State Fault Refusal :=
  .next <| match s.fg.label with
  | .l0 => (s.setSwu { s.swu with dl := .written s.ctr, sh := .written b }).goto .l1
  | .l1 => (driveTx false s).goto .l2
  | .l2 => fetch .fg s.swu.dl s fun dl =>
      ((addDeadline dl s.cfg.bitTime s).setSwu
        { (addDeadline dl s.cfg.bitTime s).swu with i := .written 0 }).goto .l3
  | .l3 => holdDeadline s (s.goto .l4)
  | .l4 => fetch .fg s.swu.sh s fun sh =>
      ((driveTx (sh.getLsbD 0) s).setSwu { s.swu with sh := .written (sh >>> 1) }).goto .l5
  | .l5 => fetch .fg s.swu.dl s fun dl => fetch .fg s.swu.i s fun i =>
      ((addDeadline dl s.cfg.bitTime s).setSwu
        { (addDeadline dl s.cfg.bitTime s).swu with i := .written (i + 1) }).goto .l6
  | .l6 => holdDeadline s (s.goto .l7)
  | .l7 => fetch .fg s.swu.i s fun i => if i < 8 then s.goto .l4 else s.goto .l8
  | .l8 => (driveTx true s).goto .l9
  | .l9 => fetch .fg s.swu.dl s fun dl => (addDeadline dl s.cfg.bitTime s).goto .l10
  | .l10 => holdDeadline s s.done
  | _ => s

/-- SWU_GETC (R157), lines G0 to G10. -/
def execSwuGetc (s : State) : Host.Outcome State Fault Refusal :=
  .next <| match s.fg.label with
  | .l0 => holdUntil (!s.line.rx) s (s.goto .l1)
  | .l1 => ((addDeadline s.ctr s.cfg.rxStartDelay s).setSwu
      { (addDeadline s.ctr s.cfg.rxStartDelay s).swu with acc := .written 0, i := .written 0 }).goto .l2
  | .l2 => holdDeadline s (s.goto .l3)
  | .l3 => fetch .fg s.swu.dl s fun dl => (addDeadline dl s.cfg.bitTime s).goto .l4
  | .l4 => holdDeadline s (s.goto .l5)
  | .l5 => fetch .fg s.swu.acc s fun acc => fetch .fg s.swu.i s fun i =>
      ((sampleRx s).setSwu
        { s.swu with acc := .written (orBit acc s.line.rx i), i := .written (i + 1) }).goto .l6
  | .l6 => fetch .fg s.swu.i s fun i => if i < 8 then s.goto .l3 else s.goto .l7
  | .l7 => fetch .fg s.swu.dl s fun dl => (addDeadline dl s.cfg.bitTime s).goto .l8
  | .l8 => holdDeadline s (s.goto .l9)
  | .l9 => ((sampleRx s).setSwu
      { s.swu with framingError := s.swu.framingError || !s.line.rx }).goto .l10
  | .l10 => fetch .fg s.swu.acc s fun acc =>
      ((setRet acc s).setSwu { s.swu with rxAvailable := true }).done
  | _ => s

end Sys2Proof.Machine
end

