-- ==== Sys2Proof/Machine/Uart.lean ====
section
/-! DEFINITION. The hardware-assisted UART driver (42_uart.md) and its two interrupt handlers, line by line. -/

namespace Sys2Proof.Machine

/-- UART_INIT (R182), lines I0 to I8. -/
def execUartInit (s : State) : Host.Outcome State Fault Refusal :=
  .next <| match s.fg.label with
  | .l0 => (claim s.cfg.clkA s).goto .l1
  | .l1 => (writeUartSwrst true s).goto .l2
  | .l2 => writeLegal (1 ≤ s.cfg.baudDiv && s.cfg.baudDiv < 2 ^ s.cfg.brW) s
      ((s.setUeng { s.ueng with brDiv := .written s.cfg.baudDiv }).goto .l3)
  | .l3 => writeLegal (s.cfg.baudRem < 2 ^ s.cfg.brW) s
      ((s.setUeng { s.ueng with brRem := .written s.cfg.baudRem }).goto .l4)
  | .l4 => writeLegal (s.cfg.baudMod < 2 ^ s.cfg.modW) s
      ((s.setUeng { s.ueng with brMod := .written s.cfg.baudMod }).goto .l5)
  | .l5 => writeLegal (s.cfg.isClock s.cfg.clkA) s
      ((s.setUeng { s.ueng with clksel := .written s.cfg.clkA }).goto .l6)
  | .l6 => (writeUartSwrst false s).goto .l7
  | .l7 => (s.setUeng { s.ueng with txIe := .written true }).goto .l8
  | .l8 => (s.setUeng { s.ueng with rxIe := .written true }).done
  | _ => s

/-- UART_ENABLE (R188): one claim of CLK_A. -/
def execUartEnable (s : State) : Host.Outcome State Fault Refusal :=
  .next <| match s.fg.label with
  | .l0 => (claim s.cfg.clkA s).done
  | _ => s

/-- UART_DISABLE (R189): one release of CLK_A. -/
def execUartDisable (s : State) : Host.Outcome State Fault Refusal :=
  .next <| match s.fg.label with
  | .l0 => release .fg s.cfg.clkA s State.done
  | _ => s

/-- The seed of a transfer: `U.txbuf <- v`, then into WAIT (R185 X4, R186 C3). -/
def seedUart (v : Byte) (s : State) : State := writeUartTxbuf .fg v s fun s => s.goto .w0

/-- `uart.tx_count <- n` (R185 X1). -/
def setTxCount (n : Nat) (s : State) : State := s.setUart { s.uart with txCount := n }

/-- `uart.tx_cursor <- p + 1` (R185 X2; log 11 for a sum that does not fit). -/
def setTxCursorAfter (p : Nat) (s : State) : State :=
  (takeFree s p).setUart { s.uart with txCursor := cursorAfter s p }

/-- `uart.tx_done <- b`. -/
def setTxDone (b : Bool) (s : State) : State := s.setUart { s.uart with txDone := b }

/-- UART_TRANSFER [p, n], tmo (R185), lines X0 to X6. The checks of R364 and R81 come with the first label. -/
def execUartTransfer (p : BitVec 32) (n : BitVec 16) (tmo : Option (BitVec 16)) (s : State) :
    Host.Outcome State Fault Refusal :=
  .next <| match s.fg.label with
  | .l0 => requireLive s.ueng.live s <|
      if bufferWraps s.cfg p.toNat n.toNat then s.refuse .bufferWraps
      else if n = 0 then s.refuse .emptyTransfer
      else s.goto .l1
  | .l1 => (setTxCount n.toNat s).goto .l2
  | .l2 => (setTxCursorAfter p.toNat s).goto .l3
  | .l3 => (setTxDone false s).goto .l4
  | .l4 => memRead p.toNat s fun v => seedUart v s
  | .l6 => s.done
  | _ => waitStep s.uart.txDone (tmoOp tmo) .l6 s

/-- UART_PUTC b, tmo (R186), lines C1 to C5. -/
def execUartPutc (b : Byte) (tmo : Option (BitVec 16)) (s : State) : Host.Outcome State Fault Refusal :=
  .next <| match s.fg.label with
  | .l0 => requireLive s.ueng.live s ((setTxCount 1 s).goto .l2)
  | .l2 => (setTxDone false s).goto .l3
  | .l3 => seedUart b s
  | .l5 => s.done
  | _ => waitStep s.uart.txDone (tmoOp tmo) .l5 s

/-- UART_PUTS [p], tmo (R187), lines S0 to S4, then X1 to X6 of R185 with `n = fg.len`. -/
def execUartPuts (p : BitVec 32) (tmo : Option (BitVec 16)) (s : State) : Host.Outcome State Fault Refusal :=
  .next <| match s.fg.label with
  | .l0 => requireLive s.ueng.live s ((s.setFg { s.fg with len := 0 }).goto .l1)
  | .l1 => memRead (p.toNat + s.fg.len) s fun v => (s.setFg { s.fg with b := v }).goto .l2
  | .l2 =>
      if s.fg.b = 0 then s.goto .l3
      else if 2 ^ s.cfg.addrW ≤ p.toNat + s.fg.len + 1 ∨ 2 ^ s.cfg.countW ≤ s.fg.len + 1 then s.refuse .bufferWraps
      else (s.setFg { s.fg with len := s.fg.len + 1 }).goto .l1
  | .l3 => if s.fg.len = 0 then s.refuse .emptyTransfer else s.goto .l4
  | .l4 => s.goto .x1
  | .x1 => (setTxCount s.fg.len s).goto .x2
  | .x2 => (setTxCursorAfter p.toNat s).goto .x3
  | .x3 => (setTxDone false s).goto .x4
  | .x4 => memRead p.toNat s fun v => seedUart v s
  | .x6 => s.done
  | _ => waitStep s.uart.txDone (tmoOp tmo) .x6 s

/-- UART_GETC tmo (R194), lines G0 to G4. -/
def execUartGetc (tmo : Option (BitVec 16)) (s : State) : Host.Outcome State Fault Refusal :=
  .next <| match s.fg.label with
  | .l0 => requireLive s.ueng.live s ((s.setUart { s.uart with rxCount := 0 }).goto .l1)
  | .l1 => (s.setUart { s.uart with rxAvailable := false }).goto .w0
  | .l3 => (if s.uart.rxCount = 1 then s.setUart { s.uart with rxAvailable := true } else s).goto .l4
  | .l4 => (setRet s.uart.rxByte s).done
  | _ => waitStep (s.uart.rxCount == 1) (tmoOp tmo) .l3 s

/-- UART_HANDLE_TX_IRQ (R192), lines T0 to T7. -/
def execUartHandleTxIrq (s : State) : Host.Outcome State Fault Refusal :=
  .next <| match s.irq.label with
  | .t0 => if isOne s.ueng.txReady then s.irqGoto .t1 else s.irqReturn false
  | .t1 => (if 0 < s.uart.txCount then setTxCount (s.uart.txCount - 1) s else s).irqGoto .t2
  | .t2 => if 0 < s.uart.txCount then s.irqGoto .t3 else s.irqGoto .t5
  | .t3 => memRead s.uart.txCursor s fun v => writeUartTxbuf .irq v s fun s => s.irqGoto .t4
  | .t4 => (setTxCursorAfter s.uart.txCursor s).irqReturn false
  | .t5 => (setTxDone true s).irqGoto .t6
  | .t6 => (match s.cfg.uartTxExhaust with
      | .clearFlag => s.setUeng { s.ueng with txReady := .written false }
      | .none => s).irqGoto .t7
  | .t7 => s.irqReturn true
  | _ => s

/-- UART_HANDLE_RX_IRQ (R193), lines Q0 to Q3. -/
def execUartHandleRxIrq (s : State) : Host.Outcome State Fault Refusal :=
  .next <| match s.irq.label with
  | .q0 => if isOne s.ueng.rxReady then s.irqGoto .q1 else s.irqReturn false
  | .q1 => readUartRxbuf .irq s fun v t => (t.setUart { t.uart with rxByte := v }).irqGoto .q2
  | .q2 => (s.setUart { s.uart with rxCount := 1 }).irqGoto .q3
  | .q3 => s.irqReturn true
  | _ => s

end Sys2Proof.Machine
end

