-- ==== Sys2Proof/Machine/Dispatch.lean ====
section
/-! DEFINITION. One arm per operation: the micro-step of the operation at the label the state holds. -/

namespace Sys2Proof.Machine

def exec (i : Instr) (s : State) : Host.Outcome State Fault Refusal :=
  match i with
  | .swuPutc b => Sys2Proof.Machine.execSwuPutc b s
  | .swuGetc => Sys2Proof.Machine.execSwuGetc s
  | .swuStatusRead => Sys2Proof.Machine.execSwuStatusRead s
  | .swuStatusClear => Sys2Proof.Machine.execSwuStatusClear s
  | .uartInit => Sys2Proof.Machine.execUartInit s
  | .uartEnable => Sys2Proof.Machine.execUartEnable s
  | .uartDisable => Sys2Proof.Machine.execUartDisable s
  | .uartTransfer p n tmo => Sys2Proof.Machine.execUartTransfer p n tmo s
  | .uartPutc b tmo => Sys2Proof.Machine.execUartPutc b tmo s
  | .uartPuts p tmo => Sys2Proof.Machine.execUartPuts p tmo s
  | .uartGetc tmo => Sys2Proof.Machine.execUartGetc tmo s
  | .uartStatusRead => Sys2Proof.Machine.execUartStatusRead s
  | .uartStatusClear => Sys2Proof.Machine.execUartStatusClear s
  | .uartHandleTxIrq => Sys2Proof.Machine.execUartHandleTxIrq s
  | .uartHandleRxIrq => Sys2Proof.Machine.execUartHandleRxIrq s
  | .i2cInit => Sys2Proof.Machine.execI2cInit s
  | .i2cEnable => Sys2Proof.Machine.execI2cEnable s
  | .i2cDisable => Sys2Proof.Machine.execI2cDisable s
  | .i2cTransfer dir a p n tmo => Sys2Proof.Machine.execI2cTransfer dir a p n tmo s
  | .i2cSend a p n tmo => Sys2Proof.Machine.execI2cSend a p n tmo s
  | .i2cReceive a p n tmo => Sys2Proof.Machine.execI2cReceive a p n tmo s
  | .i2cHandleTxIrq => Sys2Proof.Machine.execI2cHandleTxIrq s
  | .i2cHandleRxIrq => Sys2Proof.Machine.execI2cHandleRxIrq s
  | .dispatch v => Sys2Proof.Machine.execDispatch v s
  | .tickIsr => Sys2Proof.Machine.execTickIsr s

end Sys2Proof.Machine
end

