-- ==== Sys2Proof/Machine/Engines.lean ====
section
/-! DEFINITION. The environment agents' steps (44_engines.md). Each answers `none` where the step is not enabled; an
engine step that needs an unwritten register is not (R65). -/

namespace Sys2Proof.Machine

/-- May the engines step now? Not while a handler runs under HANDLER_ATOMIC_WRT_ENGINES (R331). -/
def enginesFree (s : State) : Bool := !s.cfg.handlerAtomic || s.cpu.ctx == .fg

/-- ENV.U may step: running (R279), not stopped by a fault (R345), not held by a handler (R331). -/
def uartMoves (s : State) : Bool := uartRunning s && enginesFree s && !stopped s .envU

/-- ENV.I may step (R280, R331, R345). -/
def i2cMoves (s : State) : Bool := i2cRunning s && enginesFree s && !stopped s .envI

/-- ENV.U LOAD (R273). -/
def uartLoad (s : State) : Option State :=
  match s.ueng.txregFull, s.ueng.shifterFull, s.ueng.txreg with
  | .written true, .written false, .written v =>
    if uartMoves s then
      some (s.setUeng { s.ueng with
        shifter := .written v, shifterFull := .written true, txregFull := .written false, txReady := .written true })
    else none
  | _, _, _ => none

/-- ENV.U SHIFT_OUT (R274). -/
def uartShiftOut (s : State) : Option State :=
  match s.ueng.shifterFull, s.ueng.shifter with
  | .written true, .written v =>
    if uartMoves s then some ((s.emit (.uOut v)).setUeng { s.ueng with shifterFull := .written false }) else none
  | _, _ => none

/-- ENV.U RECEIVE of the byte `v` (R275). -/
def uartReceive (v : Byte) (s : State) : Option State :=
  if uartMoves s then
    some ((s.emit (.uIn v)).setUeng { s.ueng with rxbuf := .written v, rxReady := .written true })
  else none

/-- `i2c.phase <- ph` (R238). -/
def setPhase (ph : Phase) (s : State) : State := s.setI2c { s.i2c with phase := ph }

/-- ENV.I START (R282). -/
def i2cStart (s : State) : Option State :=
  match s.ieng.startReq, s.ieng.estate, s.ieng.sa, s.ieng.dirTx with
  | .written true, .written e, .written a, .written d =>
    if i2cMoves s && (e == .idle || e == .hold) then
      some (setPhase .startSent ((s.emit (.i2cStart a (!d))).setIeng { s.ieng with
        busBusy := .written true, estate := .written .addr }))
    else none
  | _, _, _, _ => none

/-- ENV.I ADDRESS with the slave's answer (R283, R284). R65's need is taken of the step and not of the branch drawn: it has
no step while `I.dir_tx` is unwritten, although R284 alone reads it nowhere (DESIGN CHOICE, log 28). -/
def i2cAddress (ack : Bool) (s : State) : Option State :=
  match s.ieng.estate, s.ieng.dirTx with
  | .written .addr, .written d =>
    if i2cMoves s then
      if ack then
        if d then
          some (setPhase .txByte ((s.emit .i2cAddrAck).setIeng { s.ieng with
            startReq := .written false, estate := .written .tx, txReady := .written true }))
        else
          some (setPhase .rxByte ((s.emit .i2cAddrAck).setIeng { s.ieng with
            startReq := .written false, estate := .written .rx }))
      else
        some ((s.emit .i2cAddrNack).setIeng { s.ieng with
          startReq := .written false, nack := .written true, estate := .written .hold })
    else none
  | _, _ => none

/-- ENV.I LOAD (R285). -/
def i2cLoad (s : State) : Option State :=
  match s.ieng.estate, s.ieng.txregFull, s.ieng.shifterFull, s.ieng.txreg with
  | .written .tx, .written true, .written false, .written v =>
    if i2cMoves s then
      some (s.setIeng { s.ieng with
        shifter := .written v, shifterFull := .written true, txregFull := .written false, txReady := .written true })
    else none
  | _, _, _, _ => none

/-- ENV.I BYTE_OUT with the slave's answer (R286); a NACK'd data byte raises I2C_DATA_NACK (R287). -/
def i2cByteOut (ack : Bool) (s : State) : Option State :=
  match s.ieng.estate, s.ieng.shifterFull, s.ieng.shifter with
  | .written .tx, .written true, .written v =>
    if i2cMoves s then
      let t := (s.emit (.i2cByteOut v ack)).setIeng { s.ieng with shifterFull := .written false }
      some (if ack then t else t.raise .envI .i2cDataNack)
    else none
  | _, _, _ => none

/-- Where STOP_BEGIN is enabled (R288). -/
def stopBeginState (e : I2cEngine) : Bool :=
  (e.estate == .written .tx && e.txregFull == .written false && e.shifterFull == .written false)
    || e.estate == .written .hold
    || (e.estate == .written .rxlast && e.rxReady == .written false)

/-- ENV.I STOP_BEGIN (R288). -/
def i2cStopBegin (s : State) : Option State :=
  if i2cMoves s && isOne s.ieng.stopReq && stopBeginState s.ieng then
    some (setPhase .stopSent ((s.emit .i2cStop).setIeng { s.ieng with
      stopReq := .written false, estate := .written .stopping }))
  else none

/-- ENV.I STOP_END (R288). -/
def i2cStopEnd (s : State) : Option State :=
  if i2cMoves s && s.ieng.estate == .written .stopping then
    some (setPhase .idle (s.setIeng { s.ieng with busBusy := .written false, estate := .written .idle }))
  else none

/-- ENV.I BYTE_IN of the slave's byte `v`, acknowledged unless a STOP is requested (R289, R290). -/
def i2cByteIn (v : Byte) (s : State) : Option State :=
  match s.ieng.estate, s.ieng.rxReady, s.ieng.stopReq with
  | .written .rx, .written false, .written stop =>
    if i2cMoves s then
      some ((s.emit (.i2cByteIn v (!stop))).setIeng { s.ieng with
        rxbuf := .written v, rxReady := .written true,
        estate := .written (if stop then .rxlast else .rx) })
    else none
  | _, _, _ => none

/-- ENV.I STOP_IDLE (R291), under I2C_STOP_IN_IDLE. -/
def i2cStopIdle (s : State) : Option State :=
  if i2cMoves s && s.ieng.estate == .written .idle && isOne s.ieng.stopReq
      && s.ieng.startReq == .written false then
    some (match s.cfg.stopInIdle with
      | .fault => s.raise .envI .i2cStopInIdle
      | .ignore => s.setIeng { s.ieng with stopReq := .written false })
  else none

/-- ENV.I START_BUSY (R292). -/
def i2cStartBusy (s : State) : Option State :=
  if i2cMoves s && isOne s.ieng.startReq
      && (s.ieng.estate == .written .tx || s.ieng.estate == .written .rx || s.ieng.estate == .written .rxlast) then
    some (s.raise .envI .i2cStartWhileBusy)
  else none

/-- ENV.CTR (R301). -/
def ctrStep (s : State) : State := s.setCtr ((s.ctr + 1) % 2 ^ s.cfg.ctrW)

/-- ENV.TICK (R302). -/
def tickStep (s : State) : State := s.setTickPending true

/-- ENV.LINE drawing the level `b` (R300). -/
def lineStep (b : Bool) (s : State) : State := s.setLine { s.line with rx := b }

/-- The step of an environment choice, `none` where it is not enabled. The block's own choices are not here. -/
def envStep (c : Choice) (s : State) : Option State :=
  match c with
  | .uLoad => uartLoad s
  | .uShiftOut => uartShiftOut s
  | .uReceive v => uartReceive v s
  | .iStart => i2cStart s
  | .iAddress ack => i2cAddress ack s
  | .iLoad => i2cLoad s
  | .iByteOut ack => i2cByteOut ack s
  | .iStopBegin => i2cStopBegin s
  | .iStopEnd => i2cStopEnd s
  | .iByteIn v => i2cByteIn v s
  | .iStopIdle => i2cStopIdle s
  | .iStartBusy => i2cStartBusy s
  | .ctr => some (ctrStep s)
  | .tick => some (tickStep s)
  | .line b => some (lineStep b s)
  | .fg => none
  | .irq => none
  | .enter _ => none

end Sys2Proof.Machine
end

