-- ==== Sys2Proof/Machine/Schedule.lean ====
section
/-! DEFINITION. One step of one agent: the foreground reaching a descriptor (R22, R105), the interrupt context inside
a vector's body, the entry of a vector, the environment; which agent moves (R8; log 2); and where the next
instruction is fetched. -/

namespace Sys2Proof.Machine

/-- The refusal a decode error is (R105). -/
def refusalOf : DecodeError → Refusal
  | .unassignedOpcode => .unassignedOpcode
  | .reservedField => .reservedField

/-- FG has a next micro-step to try: it is its context, it is awake (R51), no vector is acceptable (R326), it raised no
fault (R14) and its list is not finished (R24). -/
def fgReady (s : State) : Bool :=
  s.cpu.ctx == .fg && !s.cpu.asleep && !anyAcceptable s && !stopped s .fg && s.fg.k < s.fg.prog.length

/-- The descriptor the foreground stands at (R22). -/
def currentDesc (s : State) : Desc := s.fg.prog.getD s.fg.k 0

/-- What the foreground makes of a descriptor (R105): a refusal by name, or the operation. The checks stand in R105's
order (log 12). -/
def fgInstr (s : State) : Except Refusal Instr :=
  match decode (currentDesc s) with
  | .error e => .error (refusalOf e)
  | .ok i =>
    if rangeOk s.cfg i then
      match issuer i with
      | .fg => .ok i
      | .irq => .error .handlerInForeground
    else .error .fieldRange

/-- A micro-step of FG (R10, R22); nothing where it has none. A descriptor that R105 refuses takes the mark in the step of FG
that would be its first micro-step, and not in the `done` that reaches it (DESIGN CHOICE, log 29). -/
def fgStep (s : State) : Host.Outcome State Fault Refusal :=
  if fgReady s then
    match fgInstr s with
    | .error r => .next (s.refuse r)
    | .ok i => exec i s
  else .next s

/-- The operation whose micro-step the interrupt context stands at: TICK_ISR in VT, else DISPATCH at its own lines and
the called handler at a handler's (R330, R340). -/
def irqInstr (s : State) : Option Instr :=
  match s.cpu.ctx with
  | .fg => none
  | .irq .vt _ _ => some .tickIsr
  | .irq v j _ =>
    match s.irq.label with
    | .d0 | .d2 | .d3 => some (.dispatch (vecNum v))
    | .k0 | .k1 | .k2 => none
    | _ => (s.cfg.dispatchOrder v)[j]?.map handlerInstr

/-- A micro-step of IRQ inside a vector's body; nothing where it has none. -/
def irqStep (s : State) : Host.Outcome State Fault Refusal :=
  if stopped s .irq then .next s
  else
    match irqInstr s with
    | none => .next s
    | some i => exec i s

/-- ENTER(v) where `v` is acceptable (R325, R327); nothing elsewhere. -/
def enterStep (v : Vec) (s : State) : State :=
  if acceptable s v && !stopped s .irq then irqEnter v s else s

/-- The step of the agent a choice names; where that agent has no enabled step the state stays (log 2). -/
def takeChoice (c : Choice) (s : State) : Host.Outcome State Fault Refusal :=
  match c with
  | .fg => fgStep s
  | .irq => irqStep s
  | .enter v => .next (enterStep v s)
  | c => .next ((envStep c s).getD s)

/-- The next choice: the head of the script, else the free schedule's next; and the state with it used up (log 2). -/
def nextChoice (s : State) : Choice × State :=
  match s.sched.script with
  | c :: cs => (c, s.setSched { s.sched with script := cs })
  | [] => (Config.schedule s.sched.drawn, s.setSched { s.sched with drawn := s.sched.drawn + 1 })

/-- One step of the block: a refused state has none (R14); else one step of the agent that moves next. -/
def blockStep (s : State) : Host.Outcome State Fault Refusal :=
  match s.refused with
  | some r => .refused r
  | none => takeChoice (nextChoice s).1 (nextChoice s).2

/-! ### Placing one instruction where the next step runs it (logs 8, 9) -/

/-- The interrupt context standing at the first line of an operation of its own: its context, and its label. -/
def irqPlace (s : State) : Instr → Option (Ctx × IrqLabel)
  | .dispatch v => (vecOf s.cfg v).map fun u => (.irq u 0 false, .d0)
  | .tickIsr => some (.irq .vt 0 false, .k0)
  | .uartHandleTxIrq => handlerPlace s .uartTx
  | .uartHandleRxIrq => handlerPlace s .uartRx
  | .i2cHandleTxIrq => handlerPlace s .i2cTx
  | .i2cHandleRxIrq => handlerPlace s .i2cRx
  | _ => none
where
  /-- The vector that calls a handler under VECTOR_MAP (R323). -/
  handlerVec (c : Params) (h : Handler) : Vec :=
    match c.vectorMap, h with
    | .onePerModule, _ => .vm
    | .splitTxRx, .uartTx => .vmTx
    | .splitTxRx, .i2cTx => .vmTx
    | .splitTxRx, .uartRx => .vmRx
    | .splitTxRx, .i2cRx => .vmRx
  /-- Inside that vector's dispatch, at the handler's place in the order. -/
  handlerPlace (s : State) (h : Handler) : Option (Ctx × IrqLabel) :=
    some (.irq (handlerVec s.cfg h) ((s.cfg.dispatchOrder (handlerVec s.cfg h)).idxOf h) false, handlerEntry h)

/-- Put a descriptor at an index of the operation list, filling the list up to it with descriptors of 0. -/
def placeDesc (prog : List Desc) (k : Nat) (d : Desc) : List Desc :=
  prog.take k ++ List.replicate (k - prog.length) 0 ++ d :: prog.drop (k + 1)

/-- The foreground standing at a descriptor, awake, unmasked only where no vector would be entered first, and next to
move. -/
def placeForeground (s : State) (d : Desc) : State :=
  let t := (s.setFg { s.fg with prog := placeDesc s.fg.prog s.fg.k d, label := .l0 }).setSched
    { s.sched with script := .fg :: s.sched.script }
  t.setCpu { t.cpu with ctx := .fg, asleep := false, gie := t.cpu.gie && !anyAcceptable (t.setCpu { t.cpu with ctx := .fg }) }

/-- The interrupt context standing at an operation of its own, as ENTER leaves the CPU (R327), and next to move. -/
def placeInterrupt (s : State) (ctx : Ctx) (l : IrqLabel) : State :=
  ((s.setCpu { asleep := false, gie := false, ctx := ctx, saved := .written s.cpu.asleep }).irqGoto l).setSched
    { s.sched with script := .irq :: s.sched.script }

/-- Place one descriptor so that the very next step runs it: in `fg.prog` for an operation of FG (and for a descriptor
that is refused), in the interrupt context for one of IRQ (log 9). -/
def placeWord (s : State) (d : Desc) : State :=
  match decode d with
  | .error _ => placeForeground s d
  | .ok i =>
    match irqPlace s i with
    | some (ctx, l) => placeInterrupt s ctx l
    | none => placeForeground s d

end Sys2Proof.Machine
end

