-- ==== Sys2Proof/Machine/Step.lean ====
section
/-! DEFINITION. The machine's step, and the instruction placed where it fetches next. -/

namespace Sys2Proof.Machine

/-- One atomic step of the agent that moves next (R7, R8, R10). -/
def step (s : State) : Host.Outcome State Fault Refusal := blockStep s

/-- `s` with the instruction whose table word is `w` placed where the next step fetches it (logs 8, 9). -/
def State.withFetchWord (s : State) (nbits w : Nat) : State := placeWord s (BitVec.ofNat 96 (w % 2 ^ nbits))

end Sys2Proof.Machine
end

