-- ==== Sys2Proof/Safety.lean ====
section
/-! DEFINITION. The terms claims are stated in: the end of a run, whole operations, runs that nothing delays, fair runs,
the standing of each context, and the invariants that every step keeps. -/

namespace Sys2Proof

/-- A written element satisfies `p`. -/
def Reg.Meets {α : Type} (r : Reg α) (p : α → Prop) : Prop := ∀ v, r = .written v → p v

/-- The element is written. -/
def Reg.Written {α : Type} (r : Reg α) : Prop := r ≠ .unwritten

end Sys2Proof

namespace Sys2Proof.Machine

/-! ### Runs -/

/-- The run has ended (R24): the list is finished, in the foreground, with no fault and no refusal. -/
def Ended (s : State) : Prop :=
  s.fg.k = s.fg.prog.length ∧ s.fg.label = .l0 ∧ s.cpu.ctx = .fg ∧ s.fault = [] ∧ s.refused = none

/-- `n` micro-steps of one operation, no other agent stepping between them (R10, R15). -/
def execN : Nat → Instr → State → Host.Outcome State Fault Refusal
  | 0, _, s => .next s
  | n + 1, i, s =>
    match exec i s with
    | .next t => execN n i t
    | .fault f => .fault f
    | .refused r => .refused r

/-- A run of an operation of the foreground that nothing delays (R155, R160), with the number of counter steps taken:
the operation's micro-step where it has one, and a counter step only where it holds. After the `n`-th counter step the
receive line is at `level n`. -/
def undelayed (i : Instr) (level : Nat → Bool) : Nat → State × Nat → State × Nat
  | 0, r => r
  | m + 1, (s, n) =>
    match exec i s with
    | .next t =>
      undelayed i level m
        (if t = s then (lineStep (level (n + 1)) (ctrStep s), n + 1) else (t, n))
    | _ => (s, n)

/-- The agent that moves next, and what it draws, is `c`, and `t` is the state its step starts from: the same state with
that choice used up (R8, R303; log 2). -/
def Moves (c : Choice) (s t : State) : Prop :=
  s.refused = none ∧
    ((∃ cs, s.sched.script = c :: cs ∧ t = { s with sched := { s.sched with script := cs } })
      ∨ (s.sched.script = [] ∧ Config.schedule s.sched.drawn = c
          ∧ t = { s with sched := { s.sched with drawn := s.sched.drawn + 1 } }))

/-- An agent has recorded a fault (R14, R345). -/
def Faulted (a : Agent) (s : State) : Prop := ∃ f ∈ s.fault, f.agent = a

/-- The engines are not frozen by a handler (R331). -/
def EnginesFree (s : State) : Prop := s.cfg.handlerAtomic = false ∨ s.cpu.ctx = .fg

/-- An infinite run of the block. -/
def IsRun (run : Nat → State) : Prop := ∀ n, step (run n) = .next (run (n + 1))

/-- The agent of a choice has an enabled step: the state is not refused and taking the choice changes it. -/
def enabled (c : Choice) (s : State) : Prop := s.refused = none ∧ takeChoice c s ≠ .next s

/-- Choices the fairness of R304 is about, grouped by the agent or the engine step it names: FG, IRQ, ENV.CTR, ENV.TICK,
and the engine steps; not ENV.LINE, not RECEIVE, and not the value of a draw. -/
def fairClass : Choice → Option Nat
  | .fg => some 0
  | .irq => some 1
  | .enter _ => some 1
  | .ctr => some 2
  | .tick => some 3
  | .uLoad => some 4
  | .uShiftOut => some 5
  | .iStart => some 6
  | .iAddress _ => some 7
  | .iLoad => some 8
  | .iByteOut _ => some 9
  | .iByteIn _ => some 10
  | .iStopBegin => some 11
  | .iStopEnd => some 12
  | .iStopIdle => some 13
  | .iStartBusy => some 14
  | .uReceive _ => none
  | .line _ => none

/-- Weak fairness (R304; log 19): a class with a step enabled from some point on takes a step after it. -/
def WeaklyFair (run : Nat → State) : Prop :=
  ∀ q n, (∀ m, n ≤ m → ∃ c, fairClass c = some q ∧ enabled c (run m)) →
    ∃ m, n ≤ m ∧ fairClass (nextChoice (run m)).1 = some q ∧ enabled (nextChoice (run m)).1 (run m)

/-! ### Operations by kind -/

/-- The wait of a timed operation: its condition in a state, its timeout, and the label it goes on at (R130). -/
def waitOf (s : State) : Instr → Option (Bool × Option Nat × Label)
  | .uartTransfer _ _ tmo => some (s.uart.txDone, tmoOp tmo, .l6)
  | .uartPutc _ tmo => some (s.uart.txDone, tmoOp tmo, .l5)
  | .uartPuts _ tmo => some (s.uart.txDone, tmoOp tmo, .x6)
  | .uartGetc tmo => some (s.uart.rxCount == 1, tmoOp tmo, .l3)
  | .i2cTransfer _ _ _ _ tmo => some (s.i2c.done, tmoOp tmo, .l13)
  | .i2cSend _ _ _ tmo => some (s.i2c.done, tmoOp tmo, .l13)
  | .i2cReceive _ _ _ tmo => some (s.i2c.done, tmoOp tmo, .l13)
  | _ => none

/-- The operands of an I2C transfer: direction, slave address, buffer, length, timeout (R224, R227, R228). -/
def i2cOperands : Instr → Option (Dir × SlaveAddr × Nat × Nat × Option Nat)
  | .i2cTransfer dir a p n tmo => some (dir, a, p.toNat, n.toNat, tmoOp tmo)
  | .i2cSend a p n tmo => some (.send, a, p.toNat, n.toNat, tmoOp tmo)
  | .i2cReceive a p n tmo => some (.recv, a, p.toNat, n.toNat, tmoOp tmo)
  | _ => none

/-- The operations R364 refuses before the driver's init. -/
def needsUart : Instr → Bool
  | .uartTransfer _ _ _ => true
  | .uartPutc _ _ => true
  | .uartPuts _ _ => true
  | .uartGetc _ => true
  | _ => false

/-- The lines of WAIT (R130, R131). -/
def waitLines (c : Params) : List Label :=
  if c.waitAtomic then [.w0, .w1, .w4, .w5] else [.w0, .w1, .w2, .w3, .w4, .w5]

/-- The lines of a foreground operation, by their labels; an operation of IRQ has none here. -/
def fgLines (c : Params) : Instr → List Label
  | .swuPutc _ => [.l0, .l1, .l2, .l3, .l4, .l5, .l6, .l7, .l8, .l9, .l10]
  | .swuGetc => [.l0, .l1, .l2, .l3, .l4, .l5, .l6, .l7, .l8, .l9, .l10]
  | .swuStatusRead => [.l0]
  | .swuStatusClear => [.l0]
  | .uartInit => [.l0, .l1, .l2, .l3, .l4, .l5, .l6, .l7, .l8]
  | .uartEnable => [.l0]
  | .uartDisable => [.l0]
  | .uartTransfer _ _ _ => [.l0, .l1, .l2, .l3, .l4, .l6] ++ waitLines c
  | .uartPutc _ _ => [.l0, .l2, .l3, .l5] ++ waitLines c
  | .uartPuts _ _ => [.l0, .l1, .l2, .l3, .l4, .x1, .x2, .x3, .x4, .x6] ++ waitLines c
  | .uartGetc _ => [.l0, .l1, .l3, .l4] ++ waitLines c
  | .uartStatusRead => [.l0]
  | .uartStatusClear => [.l0]
  | .i2cInit => [.l0, .l1, .l2, .l3, .l4, .l5, .l6, .l7]
  | .i2cEnable => [.l0]
  | .i2cDisable => [.l0]
  | .i2cTransfer _ _ _ _ _ => i2cLines c
  | .i2cSend _ _ _ _ => i2cLines c
  | .i2cReceive _ _ _ _ => i2cLines c
  | .uartHandleTxIrq => []
  | .uartHandleRxIrq => []
  | .i2cHandleTxIrq => []
  | .i2cHandleRxIrq => []
  | .dispatch _ => []
  | .tickIsr => []
where
  /-- The lines of R224. -/
  i2cLines (c : Params) : List Label :=
    [.l0, .l1, .l2, .l3, .l4, .l5, .l6, .l7, .l8, .l9, .l10, .l11, .l13, .l14] ++ waitLines c

/-- The lines of a handler (R192, R193, R230, R232). -/
def handlerLines : Handler → List IrqLabel
  | .uartTx => [.t0, .t1, .t2, .t3, .t4, .t5, .t6, .t7]
  | .uartRx => [.q0, .q1, .q2, .q3]
  | .i2cTx => [.t0, .t1, .t2, .t3, .t4, .t5, .t6, .t7, .t8]
  | .i2cRx => [.n0, .n1, .n2, .n3, .q0, .q1, .q2, .q3, .q4, .q5, .q6, .q7, .q8, .q9]

/-- The handler the dispatcher is in, or about to call (R330). -/
def currentHandler (s : State) : Option Handler :=
  match s.cpu.ctx with
  | .fg => none
  | .irq v j _ => (s.cfg.dispatchOrder v)[j]?

/-- The interrupt context stands at a line of this handler. -/
def InHandler (h : Handler) (s : State) : Prop := currentHandler s = some h ∧ s.irq.label ∈ handlerLines h

/-- The protocol state an engine state stands for (R229, R238). -/
def phaseOf : EState → Phase
  | .idle => .idle
  | .addr => .startSent
  | .hold => .startSent
  | .tx => .txByte
  | .rx => .rxByte
  | .rxlast => .rxByte
  | .stopping => .stopSent

/-- The clock hold an I2C transfer in progress has on CLK_B between its X1 and its X14 (R224, R226). -/
def transferHold (s : State) (c : ClockId) : Nat :=
  match fgInstr s with
  | .error _ => 0
  | .ok i =>
    if (i2cOperands i).isSome ∧ c = s.cfg.clkB ∧ s.fg.label ∉ [Label.l0, .l1] then 1 else 0

/-! ### Invariants: each is kept by every step, and holds at the launch -/

/-- The memory is in canonical form, and lists only addresses of the address space (R80). -/
def MemInv (s : State) : Prop := Memory.wf s.mem = true ∧ ∀ c ∈ s.mem, c.1 < 2 ^ s.cfg.addrW

/-- The foreground stands at a line of the operation it has reached, or at the start of one (R22). -/
def PositionInv (s : State) : Prop :=
  s.fg.label = .l0 ∨ ∃ i, fgInstr s = .ok i ∧ s.fg.label ∈ fgLines s.cfg i

/-- Where the interrupt context may stand in the body of a vector (R330, R340). -/
def Standing (c : Params) (v : Vec) (j : Nat) (l : IrqLabel) : Prop :=
  match v with
  | .vt => l ∈ [IrqLabel.k0, .k1, .k2]
  | v => vecOf c (vecNum v) = some v ∧
      ((l ∈ [IrqLabel.d0, .d3] ∧ j ≤ (c.dispatchOrder v).length)
        ∨ ∃ h, (c.dispatchOrder v)[j]? = some h ∧ (l = .d2 ∨ l ∈ handlerLines h))

/-- Inside the interrupt context interrupts are masked, the CPU is awake, the sleep to return to is saved, and the
context stands at a line of its vector's body (R327, R337). -/
structure ContextInv (s : State) : Prop where
  masked : s.cpu.ctx ≠ .fg → s.cpu.gie = false ∧ s.cpu.asleep = false ∧ s.cpu.saved.Written
  standing : ∀ v j w, s.cpu.ctx = .irq v j w → Standing s.cfg v j s.irq.label

/-- Every register whose type is wider than its values holds a value of its width, and every configuration register a legal
one (R11, R28, R30, R33, R40, R43, R55, R56, R61); a clock claim under BOOLEAN is 0 or 1 (R50; log 14); a guard that is armed and not expired still has ticks to count (R126); the UART driver's
framing-error flag is never set (R197). The bit index of the software UART is BitIndexInv's. -/
structure RegisterInv (s : State) : Prop where
  ctr : s.ctr < 2 ^ s.cfg.ctrW
  dl : s.swu.dl.Meets (· < 2 ^ s.cfg.ctrW)
  len : s.fg.len < 2 ^ s.cfg.countW
  txCount : s.uart.txCount < 2 ^ s.cfg.countW
  txCursor : s.uart.txCursor < 2 ^ s.cfg.addrW
  count : s.i2c.count < 2 ^ s.cfg.countW
  cursor : s.i2c.cursor < 2 ^ s.cfg.addrW
  claims : s.cfg.claimKind = .boolean → ∀ c, claimCount s.claims c ≤ 1
  guard : s.tg.count < 2 ^ s.cfg.tmoW
  counting : s.tg.armed = true → s.tg.expired = false → 1 ≤ s.tg.count
  framing : s.uart.framingError = false
  brDiv : s.ueng.brDiv.Meets fun v => 1 ≤ v ∧ v < 2 ^ s.cfg.brW
  brRem : s.ueng.brRem.Meets (· < 2 ^ s.cfg.brW)
  brMod : s.ueng.brMod.Meets (· < 2 ^ s.cfg.modW)
  uartClock : s.ueng.clksel.Meets fun c => c < s.cfg.clockFreq.length
  i2cClock : s.ieng.clksel.Meets fun c => c < s.cfg.clockFreq.length
  presc : s.ieng.presc.Meets fun v => 1 ≤ v ∧ v < 2 ^ s.cfg.brW
  master : s.ieng.master.Meets (· = true)

/-- The bit index of the software UART is at most 8 (R28). -/
def BitIndexInv (s : State) : Prop := s.swu.i.Meets (· ≤ 8)

/-- The UART engine: a released engine's flags are written; transmit-ready means the holding register is empty; a full
register holds a byte; receive-ready means a byte was received (R192, R193, R271 to R276). -/
structure UartEngineInv (s : State) : Prop where
  live : s.ueng.live = true → s.ueng.swrst.Written ∧ s.ueng.txReady.Written ∧ s.ueng.rxReady.Written
    ∧ s.ueng.txregFull.Written ∧ s.ueng.shifterFull.Written
  ready : s.ueng.txReady = .written true → s.ueng.txregFull = .written false
  holding : s.ueng.txregFull = .written true → s.ueng.txreg.Written
  shifting : s.ueng.shifterFull = .written true → s.ueng.shifter.Written
  received : s.ueng.rxReady = .written true → s.ueng.rxbuf.Written

/-- The I2C engine: the same, and the bus is busy, and the protocol phase, exactly as the engine's state says (R229,
R238, R280 to R294). -/
structure I2cEngineInv (s : State) : Prop where
  live : s.ieng.live = true → s.ieng.swrst.Written ∧ s.ieng.startReq.Written ∧ s.ieng.stopReq.Written
    ∧ s.ieng.txReady.Written ∧ s.ieng.rxReady.Written ∧ s.ieng.nack.Written ∧ s.ieng.busBusy.Written
    ∧ s.ieng.txregFull.Written ∧ s.ieng.shifterFull.Written ∧ s.ieng.estate.Written
  ready : s.ieng.txReady = .written true → s.ieng.txregFull.Written
  holding : s.ieng.txregFull = .written true → s.ieng.txreg.Written
  shifting : s.ieng.shifterFull = .written true → s.ieng.shifter.Written
  received : s.ieng.rxReady = .written true → s.ieng.rxbuf.Written
  bus : ∀ e, s.ieng.estate = .written e → s.ieng.busBusy = .written (decide (e ≠ .idle)) ∧ s.i2c.phase = phaseOf e
  unborn : s.ieng.estate = .unwritten → s.i2c.phase = .idle

/-- What the handlers know of the session at each of their lines (R138, R192, R230, R232): a transmit handler past its
probe finds its flag still raised until it feeds, the count is above 0 at the lines that access the buffer, and 0 at the
lines that complete the session. -/
structure SessionInv (s : State) : Prop where
  uartReady : InHandler .uartTx s → s.irq.label ∈ [IrqLabel.t1, .t2, .t3] → s.ueng.txReady = .written true
  uartFeeds : InHandler .uartTx s → s.irq.label ∈ [IrqLabel.t3, .t4] → 0 < s.uart.txCount
  uartDone : InHandler .uartTx s → s.irq.label ∈ [IrqLabel.t5, .t6, .t7] → s.uart.txCount = 0
  i2cFeeds : InHandler .i2cTx s → s.irq.label ∈ [IrqLabel.t2, .t3, .t4] → 0 < s.i2c.count
  i2cDone : InHandler .i2cTx s → s.irq.label ∈ [IrqLabel.t5, .t6, .t7, .t8] → s.i2c.count = 0
  i2cStores : InHandler .i2cRx s → s.irq.label ∈ [IrqLabel.q4, .q5, .q6] → 0 < s.i2c.count

/-- What the foreground operation in progress reads later is written, and the bit index of the software UART is in its
range (R28, R65, R154, R157, R364). -/
def forWritten (s : State) : Instr → Prop
  | .swuPutc _ =>
    (s.fg.label ≠ .l0 → s.swu.dl.Written ∧ s.swu.sh.Written)
      ∧ (s.fg.label ∉ [Label.l0, .l1, .l2] →
          s.swu.i.Written ∧ s.swu.i.Meets (if s.fg.label ∈ [Label.l3, .l4, .l5] then (· < 8) else (· ≤ 8)))
  | .swuGetc =>
    s.fg.label ∉ [Label.l0, .l1] → s.swu.dl.Written ∧ s.swu.acc.Written ∧ s.swu.i.Written
      ∧ s.swu.i.Meets (if s.fg.label ∈ [Label.l2, .l3, .l4, .l5] then (· < 8) else (· ≤ 8))
  | i =>
    (needsUart i = true → s.fg.label ≠ .l0 → s.ueng.live = true)
      ∧ ((i2cOperands i).isSome = true → s.fg.label ≠ .l0 → s.ieng.live = true)

/-- What the handler in progress reads later is written (R65, R192, R193, R230, R232). -/
def irqWritten (s : State) : Prop :=
  (InHandler .uartTx s → s.irq.label ∈ [IrqLabel.t1, .t2, .t3] → s.ueng.txregFull.Written)
    ∧ (InHandler .uartRx s → s.irq.label = .q1 → s.ueng.rxbuf.Written)
    ∧ (InHandler .i2cTx s → s.irq.label ∈ [IrqLabel.t1, .t2] → s.ieng.txregFull.Written)
    ∧ (InHandler .i2cRx s → s.irq.label ∈ [IrqLabel.q1, .q2] → s.ieng.rxbuf.Written)

/-- No micro-step has read an unwritten element, and none in progress is about to (R65). -/
structure ReadsInv (s : State) : Prop where
  context : ContextInv s
  position : PositionInv s
  uart : UartEngineInv s
  i2c : I2cEngineInv s
  foreground : ∀ i, fgInstr s = .ok i → forWritten s i
  handler : irqWritten s
  clean : ∀ f ∈ s.fault, f.reason ≠ .unwrittenRead

/-! ### The opcode table (R103), as spec/opcode_table.json writes it -/

/-- A row's match and mask: a descriptor `d` selects the row when `d & mask = match`. -/
structure TableRow where
  pattern : Desc
  mask : Desc
deriving DecidableEq, Repr

/-- The row of an operation. -/
def tableRow : Instr → TableRow
  | .swuPutc _ => ⟨0x000000000000000000000011#96, 0xFFFFFFFFFFFFFFFF00FFFFFF#96⟩
  | .swuGetc => ⟨0x000000000000000000000012#96, 0xFFFFFFFFFFFFFFFFFFFFFFFF#96⟩
  | .swuStatusRead => ⟨0x000000000000000000000013#96, 0xFFFFFFFFFFFFFFFFFFFFFFFF#96⟩
  | .swuStatusClear => ⟨0x000000000000000000000014#96, 0xFFFFFFFFFFFFFFFFFFFFFFFF#96⟩
  | .uartInit => ⟨0x000000000000000000000020#96, 0xFFFFFFFFFFFFFFFFFFFFFFFF#96⟩
  | .uartEnable => ⟨0x000000000000000000000021#96, 0xFFFFFFFFFFFFFFFFFFFFFFFF#96⟩
  | .uartDisable => ⟨0x000000000000000000000022#96, 0xFFFFFFFFFFFFFFFFFFFFFFFF#96⟩
  | .uartTransfer _ _ _ => ⟨0x000000000000000000000023#96, 0x0000000000000000FFFFFDFF#96⟩
  | .uartPutc _ _ => ⟨0x000000000000000000000024#96, 0x0000FFFFFFFFFFFF00FFFDFF#96⟩
  | .uartPuts _ _ => ⟨0x000000000000000000000025#96, 0x0000FFFF00000000FFFFFDFF#96⟩
  | .uartGetc _ => ⟨0x000000000000000000000026#96, 0x0000FFFFFFFFFFFFFFFFFDFF#96⟩
  | .uartStatusRead => ⟨0x000000000000000000000027#96, 0xFFFFFFFFFFFFFFFFFFFFFFFF#96⟩
  | .uartStatusClear => ⟨0x000000000000000000000028#96, 0xFFFFFFFFFFFFFFFFFFFFFFFF#96⟩
  | .uartHandleTxIrq => ⟨0x00000000000000000000002E#96, 0xFFFFFFFFFFFFFFFFFFFFFFFF#96⟩
  | .uartHandleRxIrq => ⟨0x00000000000000000000002F#96, 0xFFFFFFFFFFFFFFFFFFFFFFFF#96⟩
  | .i2cInit => ⟨0x000000000000000000000030#96, 0xFFFFFFFFFFFFFFFFFFFFFFFF#96⟩
  | .i2cEnable => ⟨0x000000000000000000000031#96, 0xFFFFFFFFFFFFFFFFFFFFFFFF#96⟩
  | .i2cDisable => ⟨0x000000000000000000000032#96, 0xFFFFFFFFFFFFFFFFFFFFFFFF#96⟩
  | .i2cTransfer _ _ _ _ _ => ⟨0x000000000000000000000033#96, 0x0000000000000000FF80FCFF#96⟩
  | .i2cSend _ _ _ _ => ⟨0x000000000000000000000034#96, 0x0000000000000000FF80FDFF#96⟩
  | .i2cReceive _ _ _ _ => ⟨0x000000000000000000000035#96, 0x0000000000000000FF80FDFF#96⟩
  | .i2cHandleTxIrq => ⟨0x00000000000000000000003E#96, 0xFFFFFFFFFFFFFFFFFFFFFFFF#96⟩
  | .i2cHandleRxIrq => ⟨0x00000000000000000000003F#96, 0xFFFFFFFFFFFFFFFFFFFFFFFF#96⟩
  | .dispatch _ => ⟨0x000000000000000000000040#96, 0xFFFFFFFFFFFFFFFF00FFFFFF#96⟩
  | .tickIsr => ⟨0x000000000000000000000041#96, 0xFFFFFFFFFFFFFFFFFFFFFFFF#96⟩

/-- The opcodes of R103. -/
def opcodes : List Byte :=
  [0x11, 0x12, 0x13, 0x14, 0x20, 0x21, 0x22, 0x23, 0x24, 0x25, 0x26, 0x27, 0x28, 0x2E, 0x2F, 0x30, 0x31, 0x32, 0x33,
   0x34, 0x35, 0x3E, 0x3F, 0x40, 0x41]

/-- A descriptor selects a row of the table (R103), and its timeout field is 0 where it gives no timeout (R102). -/
def selects (d : Desc) (r : TableRow) : Prop :=
  d &&& r.mask = r.pattern ∧ (d.getLsbD 9 = false → d.extractLsb' 80 16 = 0)

end Sys2Proof.Machine
end

