-- ==== Sys2Proof/Certificates/Slice0/Obligations.lean ====
section
/-! DEFINITION. The statements for the provers. In each, `exec i s` is the micro-step of the operation `i` at the label
that `s` holds (log 1), and a next state is written out in full: an element it does not name is unchanged. The labels of
both contexts are the model's numbering of the rules' lines (logs 18, 25). A hold whose condition is false answers the
state as it is (log 1), a choice whose agent has no step uses itself up and changes nothing else (log 2), and a fault or a
refusal is recorded in a next state (log 13). Where a statement says more of the model's own than that, its docstring names
the log entry. -/

open Sys2Proof Sys2Proof.Machine

/-! ### Encoding -/

/-- Decoding an encoded operation gives it back, every operand at every value its field holds (R100 to R103). -/
def Obligations.DecodeOfEncode : Prop := ∀ i, decode (encode i) = .ok i

/-- A descriptor that decodes is the one the operation encodes to: no two descriptors name one operation, and decoding
drops no bit (R100 to R103). -/
def Obligations.EncodeOfDecode : Prop := ∀ d i, decode d = .ok i → encode i = d

/-- The decoder accepts exactly the descriptors that select a row of the opcode table, and reads the row's operation from
each; it rejects the others by name (R103, R105). That a descriptor with both faults is rejected for its opcode, before its
reserved bits are looked at, is the model's choice (log 12). -/
def Obligations.DecodeFollowsTheTable : Prop :=
  (∀ d i, decode d = .ok i → selects d (tableRow i))
    ∧ (∀ d i, selects d (tableRow i) → ∃ j, decode d = .ok j ∧ tableRow j = tableRow i)
    ∧ (∀ d : Desc, d.extractLsb' 0 8 ∉ opcodes → decode d = .error .unassignedOpcode)
    ∧ (∀ d : Desc, d.extractLsb' 0 8 ∈ opcodes → (∀ i, ¬ selects d (tableRow i)) → decode d = .error .reservedField)

/-- Where each operand stands in the descriptor, the range it is refused outside of, and the vector each number names
(R102). That a DISPATCH in the list with an illegal vector number is refused with FIELD_RANGE, and not with
HANDLER_IN_FOREGROUND, which R105 gives it too, is the model's choice (log 12). -/
def Obligations.OperandsOfTheDescriptor : Prop :=
  ∀ s d i, s.fg.prog[s.fg.k]? = some d → decode d = .ok i →
    let tmo := if d.getLsbD 9 then some (d.extractLsb' 80 16) else none
    let dir := if d.getLsbD 8 then Dir.send else .recv
    (∀ b, i = .swuPutc b → b = d.extractLsb' 24 8)
    ∧ (∀ p n t, i = .uartTransfer p n t → p = d.extractLsb' 32 32 ∧ n = d.extractLsb' 64 16 ∧ t = tmo)
    ∧ (∀ b t, i = .uartPutc b t → b = d.extractLsb' 24 8 ∧ t = tmo)
    ∧ (∀ p t, i = .uartPuts p t → p = d.extractLsb' 32 32 ∧ t = tmo)
    ∧ (∀ t, i = .uartGetc t → t = tmo)
    ∧ (∀ r a p n t, i = .i2cTransfer r a p n t →
        r = dir ∧ a = d.extractLsb' 16 7 ∧ p = d.extractLsb' 32 32 ∧ n = d.extractLsb' 64 16 ∧ t = tmo)
    ∧ (∀ a p n t, i = .i2cSend a p n t ∨ i = .i2cReceive a p n t →
        a = d.extractLsb' 16 7 ∧ p = d.extractLsb' 32 32 ∧ n = d.extractLsb' 64 16 ∧ t = tmo)
    ∧ (∀ v, i = .dispatch v → v = d.extractLsb' 24 8)
    ∧ (d.getLsbD 9 = false → d.extractLsb' 80 16 = 0)
    ∧ (fgInstr s = .error .fieldRange ↔
        ¬((d.extractLsb' 32 32).toNat < 2 ^ s.cfg.addrW
          ∧ (d.extractLsb' 64 16).toNat < 2 ^ s.cfg.countW
          ∧ (d.getLsbD 9 = true → (d.extractLsb' 80 16).toNat < 2 ^ s.cfg.tmoW)
          ∧ ∀ v, i = .dispatch v →
              match s.cfg.vectorMap with
              | .onePerModule => v = 0
              | .splitTxRx => v = 0 ∨ v = 1))
    ∧ (s.cfg.vectorMap = .onePerModule → vecOf s.cfg 0 = some .vm)
    ∧ (s.cfg.vectorMap = .splitTxRx → vecOf s.cfg 0 = some .vmTx ∧ vecOf s.cfg 1 = some .vmRx)

/-- Descriptors written out from the layout of R100 decode to the operations they stand for. -/
def Obligations.WordsDecode : Prop :=
  decode 0x000000000000000055000011#96 = .ok (.swuPutc 0x55)
    ∧ decode 0x000A00030000020000000223#96 = .ok (.uartTransfer 0x200 3 (some 10))
    ∧ decode 0x000000020000030000480033#96 = .ok (.i2cTransfer .recv 0x48 0x300 2 none)
    ∧ decode 0x000000020000030000480133#96 = .ok (.i2cTransfer .send 0x48 0x300 2 none)
    ∧ decode 0x000000000000000001000040#96 = .ok (.dispatch 1)
    ∧ decode 0x000000000000000000000041#96 = .ok .tickIsr
    ∧ decode 0x000000000000000000000010#96 = .error .unassignedOpcode
    ∧ decode 0x000000000000000000800012#96 = .error .reservedField

/-! ### One step of the block -/

/-- A step of the foreground runs the operation the descriptor at its position decodes to (R10, R22). -/
def Obligations.StepRunsTheForegroundOperation : Prop :=
  ∀ s t d i, Moves .fg s t → t.cpu.ctx = .fg → t.cpu.asleep = false → (∀ v, acceptable t v = false) →
    ¬ Faulted .fg t → t.fg.prog[t.fg.k]? = some d → decode d = .ok i → i.WellFormed t.cfg → issuer i = .fg →
    step s = exec i t

/-- A step of the interrupt context runs the operation it is in: TICK_ISR in the tick vector, else DISPATCH at its own
lines and the called handler at the handler's (R330, R340). -/
def Obligations.StepRunsTheInterruptOperation : Prop :=
  ∀ s t v j w, Moves .irq s t → ¬ Faulted .irq t → t.cpu.ctx = .irq v j w →
    (v = .vt → step s = exec .tickIsr t)
    ∧ (v ≠ .vt → t.irq.label ∈ [IrqLabel.d0, .d2, .d3] → step s = exec (.dispatch (vecNum v)) t)
    ∧ (∀ h, v ≠ .vt → (t.cfg.dispatchOrder v)[j]? = some h → t.irq.label ∈ handlerLines h →
        step s = exec (handlerInstr h) t)

/-- The foreground refuses an ill-formed descriptor by name when it reaches it, before its first micro-step, and the whole
state takes the mark (R105). The model's own: the order of the checks (log 12), and that the mark is taken in the foreground's
next step of its own, so that other agents may step first (log 29). -/
def Obligations.IllFormedDescriptorsAreRefused : Prop :=
  ∀ s t d, Moves .fg s t → t.cpu.ctx = .fg → t.cpu.asleep = false → (∀ v, acceptable t v = false) →
    ¬ Faulted .fg t → t.fg.prog[t.fg.k]? = some d →
    (d.extractLsb' 0 8 ∉ opcodes → step s = .next { t with refused := some .unassignedOpcode })
    ∧ (d.extractLsb' 0 8 ∈ opcodes → (∀ i, ¬ selects d (tableRow i)) →
        step s = .next { t with refused := some .reservedField })
    ∧ (∀ i, decode d = .ok i → ¬ i.WellFormed t.cfg → step s = .next { t with refused := some .fieldRange })
    ∧ (∀ i, decode d = .ok i → i.WellFormed t.cfg → issuer i = .irq →
        step s = .next { t with refused := some .handlerInForeground })

/-- Where an agent has no step: the foreground while the interrupt context runs, while it sleeps, while a vector is
acceptable, and past the end of its list (R22, R51, R326); the interrupt context in the foreground; and an agent that
recorded a fault (R14, R345). Only a refusal stops the machine: a refused state has no step and answers its reason,
every other state has a next state, and no step answers a fault (R14, R346; log 13). That a choice whose agent has no
step uses itself up and changes nothing else is log 2's. -/
def Obligations.WhoHasNoStep : Prop :=
  (∀ s, (∀ r, step s = .refused r ↔ s.refused = some r) ∧ (s.refused = none → ∃ t, step s = .next t)
    ∧ ∀ f, step s ≠ .fault f)
  ∧ ∀ s t c, Moves c s t →
    (c = .fg → (t.cpu.ctx ≠ .fg ∨ t.cpu.asleep = true ∨ (∃ v, acceptable t v = true) ∨ t.fg.prog.length ≤ t.fg.k
        ∨ Faulted .fg t) → step s = .next t)
    ∧ (c = .irq → (t.cpu.ctx = .fg ∨ Faulted .irq t) → step s = .next t)
    ∧ (∀ v, c = .enter v → (acceptable t v = false ∨ Faulted .irq t) → step s = .next t)
    ∧ (c ∈ [Choice.iStart, .iLoad, .iStopBegin, .iStopEnd, .iStopIdle, .iStartBusy]
          ∨ (∃ b, c = .iAddress b ∨ c = .iByteOut b) ∨ (∃ b, c = .iByteIn b) →
        Faulted .envI t → step s = .next t)

/-- ENTER: the sleep is saved and left, interrupts are masked, the context becomes IRQ(v, 0, 0), the next operation is the
body of the vector, and `fg.pc` stays (R327). -/
def Obligations.InterruptEntry : Prop :=
  ∀ s t v, Moves (.enter v) s t → ¬ Faulted .irq t → t.cpu.ctx = .fg → t.cpu.gie = true → req t v = true →
    ∃ u, step s = .next u
      ∧ u = { t with
          cpu := { saved := .written t.cpu.asleep, asleep := false, gie := false, ctx := .irq v 0 false },
          irq := { t.irq with label := if v = .vt then .k0 else .d0 } }
      ∧ irqInstr u = some (if v = .vt then .tickIsr else .dispatch (vecNum v))

/-! ### Interrupts -/

/-- The request of each vector, under either vector map: the disjunction of its sources' flags with their enable bits, an
unwritten one being false; and acceptance (R322, R323, R325). -/
def Obligations.InterruptRequests : Prop :=
  ∀ s,
    let uTx := s.ueng.txReady = .written true ∧ s.ueng.txIe = .written true
    let uRx := s.ueng.rxReady = .written true ∧ s.ueng.rxIe = .written true
    let iTx := s.ieng.txReady = .written true ∧ s.ieng.txIe = .written true
    let iRx := s.ieng.rxReady = .written true ∧ s.ieng.rxIe = .written true
    let iNack := s.ieng.nack = .written true ∧ s.ieng.nackIe = .written true
    (req s .vm = true ↔ s.cfg.vectorMap = .onePerModule ∧ (uTx ∨ uRx ∨ iTx ∨ iRx ∨ iNack))
    ∧ (req s .vmTx = true ↔ s.cfg.vectorMap = .splitTxRx ∧ (uTx ∨ iTx))
    ∧ (req s .vmRx = true ↔ s.cfg.vectorMap = .splitTxRx ∧ (uRx ∨ iRx ∨ iNack))
    ∧ (req s .vt = true ↔ s.tickPending = true)
    ∧ (∀ v, acceptable s v = true ↔ s.cpu.ctx = .fg ∧ s.cpu.gie = true ∧ req s v = true)

/-- DISPATCH, line by line: the next handler of the order is called, or the exit reached; its wake request is ORed into
`w` and the index goes on, stopping early only under the short circuit; the exit unmasks, returns to the foreground, and
returns to the saved sleep unless a wake was requested (R330, R338). -/
def Obligations.DispatchLines : Prop :=
  ∀ num s v j w, s.cpu.ctx = .irq v j w → vecOf s.cfg num = some v →
    (s.irq.label = .d0 → (s.cfg.dispatchOrder v).length ≤ j →
      exec (.dispatch num) s = .next { s with irq := { s.irq with label := .d3 } })
    ∧ (∀ h, s.irq.label = .d0 → (s.cfg.dispatchOrder v)[j]? = some h →
        exec (.dispatch num) s = .next { s with irq := { s.irq with label :=
          match h with
          | .uartTx => .t0
          | .uartRx => .q0
          | .i2cTx => .t0
          | .i2cRx => .n0 } })
    ∧ (s.irq.label = .d2 →
        exec (.dispatch num) s = .next { s with
          cpu := { s.cpu with ctx := .irq v (j + 1) (w || s.irq.wh) },
          irq := { s.irq with label := if s.cfg.shortCircuit = true ∧ (w || s.irq.wh) = true then .d3 else .d0 } })
    ∧ (∀ b, s.irq.label = .d3 → s.cpu.saved = .written b →
        exec (.dispatch num) s = .next { s with
          cpu := { s.cpu with gie := true, asleep := b && !w, ctx := .fg } })

/-- The dispatcher wakes if any handler it calls asks for it: over one entry without the short circuit, with the handlers
answering `r 0`, `r 1`, ..., the accumulator after the whole order is their disjunction (R330, R334). -/
def Obligations.DispatchWakesIfAnyHandlerAsks : Prop :=
  ∀ c num v (r : Nat → Bool) (ctx : Nat → Ctx), c.shortCircuit = false → ctx 0 = .irq v 0 false →
    vecOf c num = some v →
    (∀ k, k < (c.dispatchOrder v).length → ∃ s t, s.cfg = c ∧ s.cpu.ctx = ctx k ∧ s.irq.label = .d2
        ∧ s.irq.wh = r k ∧ exec (.dispatch num) s = .next t ∧ ctx (k + 1) = t.cpu.ctx) →
    ctx (c.dispatchOrder v).length =
      .irq v (c.dispatchOrder v).length ((List.range (c.dispatchOrder v).length).any r)

/-- TICK_ISR, line by line: the pending tick is cleared, the guard counts one tick with the wake request TICK_WAKE gives,
and the exit is that of a dispatch (R126, R338, R340). -/
def Obligations.TickIsrLines : Prop :=
  ∀ s,
    (s.irq.label = .k0 → exec .tickIsr s = .next { s with tickPending := false, irq := { s.irq with label := .k1 } })
    ∧ (s.irq.label = .k1 → s.tg.armed = true → s.tg.expired = false →
        exec .tickIsr s = .next { s with
          tg := { s.tg with count := s.tg.count - 1, expired := decide (s.tg.count - 1 = 0) },
          irq := { s.irq with label := .k2, wh := decide (s.tg.count - 1 = 0) } })
    ∧ (s.irq.label = .k1 → s.tg.armed = true → s.tg.expired = true →
        exec .tickIsr s = .next { s with
          irq := { s.irq with label := .k2, wh := decide (s.cfg.tickWake = .everyTickWhileExpired) } })
    ∧ (s.irq.label = .k1 → s.tg.armed = false →
        exec .tickIsr s = .next { s with irq := { s.irq with label := .k2, wh := false } })
    ∧ (∀ b, s.irq.label = .k2 → s.cpu.saved = .written b →
        exec .tickIsr s = .next { s with
          cpu := { s.cpu with gie := true, asleep := b && !s.irq.wh, ctx := .fg } })

/-- No nesting: while the interrupt context runs no vector is acceptable, no step enters one, and no step is a micro-step
of the foreground (R337). -/
def Obligations.NoNesting : Prop :=
  ∀ s, ContextInv s → s.cpu.ctx ≠ .fg →
    (∀ v, acceptable s v = false)
    ∧ (∀ t, step s = .next t → t.fg = s.fg)
    ∧ (∀ t v, Moves (.enter v) s t → step s = .next t)

/-! ### Shared primitives and the small operations -/

/-- UART_ENABLE, UART_DISABLE, I2C_ENABLE, I2C_DISABLE: one CLAIM or one RELEASE of the driver's clock, a count under
COUNTER and a hold under BOOLEAN, with the underflow fault (R120, R121, R188, R189, R222, R223). The model's own: what
RELEASE leaves where it underflows, which is nothing but the record, with the foreground still at the line (log 21); and
a hold counted as 0 or 1 (log 14). -/
def Obligations.ClockOperations : Prop :=
  ∀ s i c, s.fg.label = .l0 →
    (((i, c) = (.uartEnable, s.cfg.clkA) ∨ (i, c) = (.i2cEnable, s.cfg.clkB)) →
      ∃ l, exec i s = .next { s with claims := l, fg := { s.fg with k := s.fg.k + 1, label := .l0 } }
        ∧ ∀ d, claimCount l d = if d = c
            then (match s.cfg.claimKind with | .counter => claimCount s.claims c + 1 | .boolean => 1)
            else claimCount s.claims d)
    ∧ (((i, c) = (.uartDisable, s.cfg.clkA) ∨ (i, c) = (.i2cDisable, s.cfg.clkB)) →
      (s.cfg.claimKind = .counter → claimCount s.claims c = 0 →
        exec i s = .next { s with fault := s.fault ++ [⟨.releaseUnderflow, .fg, .fg s.fg.k .l0⟩] })
      ∧ ((s.cfg.claimKind = .counter → 0 < claimCount s.claims c) →
        ∃ l, exec i s = .next { s with claims := l, fg := { s.fg with k := s.fg.k + 1, label := .l0 } }
          ∧ ∀ d, claimCount l d = if d = c
              then (match s.cfg.claimKind with | .counter => claimCount s.claims c - 1 | .boolean => 0)
              else claimCount s.claims d))

/-- SWU_STATUS_READ, SWU_STATUS_CLEAR, UART_STATUS_READ, UART_STATUS_CLEAR (R133 to R136). -/
def Obligations.StatusOperations : Prop :=
  ∀ s, s.fg.label = .l0 →
    (∃ v : Byte, exec .swuStatusRead s = .next { s with
        fg := { s.fg with ret := .written v, k := s.fg.k + 1, label := .l0 } }
      ∧ v.getLsbD 0 = s.swu.rxAvailable ∧ v.getLsbD 1 = s.swu.framingError ∧ v.toNat < 4)
    ∧ exec .swuStatusClear s = .next { s with
        swu := { s.swu with framingError := false, rxAvailable := false },
        fg := { s.fg with k := s.fg.k + 1, label := .l0 } }
    ∧ (∃ v : Byte, exec .uartStatusRead s = .next { s with
        fg := { s.fg with ret := .written v, k := s.fg.k + 1, label := .l0 } }
      ∧ v.getLsbD 0 = s.uart.rxAvailable ∧ v.getLsbD 1 = s.uart.framingError ∧ v.toNat < 4)
    ∧ exec .uartStatusClear s = .next { s with
        uart := { s.uart with framingError := false, rxAvailable := false },
        fg := { s.fg with k := s.fg.k + 1, label := .l0 } }

/-- WAIT(cond, tmo_op) in each timed operation, line by line, in both variants, with TG_ARM, TG_TRIGGERED and TG_DISARM
written out (R125, R127, R128, R130, R131). The clauses at W2 and W3 hold in both variants: that R130's lines there are
taken under WAIT_CHECK_SLEEP_ATOMIC = true too, where R131 has no such labels, is the model's choice (log 30). -/
def Obligations.WaitLines : Prop :=
  ∀ i s cond tmo exit, waitOf s i = some (cond, tmo, exit) →
    let triggered := tmo.isSome && s.tg.expired
    (∀ t, s.fg.label = .w0 → tmo = some t →
      exec i s = .next { s with
        tg := { armed := true, count := t, expired := decide (t = 0) }, fg := { s.fg with label := .w1 } })
    ∧ (s.fg.label = .w0 → tmo = none → exec i s = .next { s with fg := { s.fg with label := .w1 } })
    ∧ (s.fg.label = .w1 → s.cfg.waitAtomic = false →
        exec i s = .next { s with fg := { s.fg with c := cond || triggered, label := .w2 } })
    ∧ (s.fg.label = .w2 →
        exec i s = .next { s with fg := { s.fg with label := if s.fg.c then .w5 else .w3 } })
    ∧ (s.fg.label = .w3 →
        exec i s = .next { s with cpu := { s.cpu with asleep := true }, fg := { s.fg with label := .w4 } })
    ∧ (s.fg.label = .w1 → s.cfg.waitAtomic = true → (cond || triggered) = true →
        exec i s = .next { s with fg := { s.fg with label := .w5 } })
    ∧ (s.fg.label = .w1 → s.cfg.waitAtomic = true → (cond || triggered) = false →
        exec i s = .next { s with cpu := { s.cpu with asleep := true }, fg := { s.fg with label := .w4 } })
    ∧ (s.fg.label = .w4 → s.cpu.asleep = true → exec i s = .next s)
    ∧ (s.fg.label = .w4 → s.cpu.asleep = false → exec i s = .next { s with fg := { s.fg with label := .w1 } })
    ∧ (s.fg.label = .w5 → tmo.isSome = true →
        exec i s = .next { s with tg := { s.tg with armed := false }, fg := { s.fg with label := exit } })
    ∧ (s.fg.label = .w5 → tmo = none → exec i s = .next { s with fg := { s.fg with label := exit } })

/-- A wait that nothing interrupts returns where its condition holds, leaving the CPU awake and the guard disarmed; where
neither the condition nor the guard holds it puts the CPU to sleep at W4; and with no timeout it returns only through its
condition (R130 to R132). -/
def Obligations.WaitReturnsOrSleeps : Prop :=
  ∀ i s cond tmo exit, waitOf s i = some (cond, tmo, exit) → s.fg.label = .w0 →
    (cond = true ∨ tmo = some 0 →
      ∃ t, execN (if s.cfg.waitAtomic then 3 else 4) i s = .next t ∧ t.fg.label = exit ∧ t.fg.k = s.fg.k ∧ t.cpu = s.cpu
        ∧ (tmo.isSome = true → t.tg.armed = false) ∧ (tmo = none → t.tg = s.tg))
    ∧ (cond = false → tmo ≠ some 0 →
      ∃ t, execN (if s.cfg.waitAtomic then 2 else 4) i s = .next t ∧ t.fg.label = .w4 ∧ t.fg.k = s.fg.k ∧ t.cpu = { s.cpu with asleep := true }
        ∧ (∀ n, tmo = some n → t.tg = { armed := true, count := n, expired := false }))

/-- A guard armed with N ticks, N at least 1, expires at exactly the N-th TG_TICK after it, and under ON_EXPIRY that tick
handler, and no other, requests a wake (R129). -/
def Obligations.TimeoutBoundary : Prop :=
  ∀ (n : Nat) (w : TickWake) (run : Nat → State), 1 ≤ n →
    (run 0).tg = { armed := true, count := n, expired := false } →
    (∀ k, ∃ s, s.tg = (run k).tg ∧ s.cfg.tickWake = w ∧ s.irq.label = .k1
      ∧ exec .tickIsr s = .next (run (k + 1))) →
    ∀ k, ((run k).tg.expired = true ↔ n ≤ k)
      ∧ (w = .onExpiry → ((run (k + 1)).irq.wh = true ↔ k + 1 = n))

/-! ### The software UART -/

/-- SWU_PUTC, line by line (R152, R154). -/
def Obligations.SwuPutcLines : Prop :=
  ∀ b s,
    (s.fg.label = .l0 → exec (.swuPutc b) s = .next { s with
        swu := { s.swu with dl := .written s.ctr, sh := .written b }, fg := { s.fg with label := .l1 } })
    ∧ (s.fg.label = .l1 → exec (.swuPutc b) s = .next { s with
        line := { s.line with tx := false }, trace := s.trace ++ [.txLine s.ctr false],
        fg := { s.fg with label := .l2 } })
    ∧ (∀ sh, s.fg.label = .l4 → s.swu.sh = .written sh → exec (.swuPutc b) s = .next { s with
        line := { s.line with tx := sh.getLsbD 0 }, trace := s.trace ++ [.txLine s.ctr (sh.getLsbD 0)],
        swu := { s.swu with sh := .written (sh >>> 1) }, fg := { s.fg with label := .l5 } })
    ∧ (∀ i, s.fg.label = .l7 → s.swu.i = .written i →
        exec (.swuPutc b) s = .next { s with fg := { s.fg with label := if i < 8 then .l4 else .l8 } })
    ∧ (s.fg.label = .l8 → exec (.swuPutc b) s = .next { s with
        line := { s.line with tx := true }, trace := s.trace ++ [.txLine s.ctr true],
        fg := { s.fg with label := .l9 } })
    ∧ (∀ dl, s.swu.dl = .written dl →
        let dl' := Reg.written ((dl + s.cfg.bitTime) % 2 ^ s.cfg.ctrW)
        (s.fg.label = .l2 → exec (.swuPutc b) s = .next { s with
            swu := { s.swu with dl := dl', i := .written 0 }, fg := { s.fg with label := .l3 } })
        ∧ (∀ i, s.fg.label = .l5 → s.swu.i = .written i → exec (.swuPutc b) s = .next { s with
            swu := { s.swu with dl := dl', i := .written (i + 1) }, fg := { s.fg with label := .l6 } })
        ∧ (s.fg.label = .l9 → exec (.swuPutc b) s = .next { s with
            swu := { s.swu with dl := dl' }, fg := { s.fg with label := .l10 } })
        ∧ (s.fg.label ∈ [Label.l3, .l6, .l10] → reached s.cfg s.ctr dl = false → exec (.swuPutc b) s = .next s)
        ∧ (s.fg.label = .l3 → reached s.cfg s.ctr dl = true →
            exec (.swuPutc b) s = .next { s with fg := { s.fg with label := .l4 } })
        ∧ (s.fg.label = .l6 → reached s.cfg s.ctr dl = true →
            exec (.swuPutc b) s = .next { s with fg := { s.fg with label := .l7 } })
        ∧ (s.fg.label = .l10 → reached s.cfg s.ctr dl = true →
            exec (.swuPutc b) s = .next { s with fg := { s.fg with k := s.fg.k + 1, label := .l0 } }))

/-- SWU_GETC, line by line: the start edge, the start delay, eight samples least significant bit first, the stop sample
that sets the framing error when low and never clears it, and the result (R152, R157 to R159). -/
def Obligations.SwuGetcLines : Prop :=
  ∀ s,
    (s.fg.label = .l0 → s.line.rx = true → exec .swuGetc s = .next s)
    ∧ (s.fg.label = .l0 → s.line.rx = false →
        exec .swuGetc s = .next { s with fg := { s.fg with label := .l1 } })
    ∧ (s.fg.label = .l1 → exec .swuGetc s = .next { s with
        swu := { s.swu with dl := .written ((s.ctr + s.cfg.rxStartDelay) % 2 ^ s.cfg.ctrW),
                            acc := .written 0, i := .written 0 },
        fg := { s.fg with label := .l2 } })
    ∧ (∀ dl, s.swu.dl = .written dl →
        let dl' := Reg.written ((dl + s.cfg.bitTime) % 2 ^ s.cfg.ctrW)
        (s.fg.label ∈ [Label.l2, .l4, .l8] → reached s.cfg s.ctr dl = false → exec .swuGetc s = .next s)
        ∧ (s.fg.label = .l2 → reached s.cfg s.ctr dl = true →
            exec .swuGetc s = .next { s with fg := { s.fg with label := .l3 } })
        ∧ (s.fg.label = .l3 → exec .swuGetc s = .next { s with
            swu := { s.swu with dl := dl' }, fg := { s.fg with label := .l4 } })
        ∧ (s.fg.label = .l4 → reached s.cfg s.ctr dl = true →
            exec .swuGetc s = .next { s with fg := { s.fg with label := .l5 } })
        ∧ (s.fg.label = .l7 → exec .swuGetc s = .next { s with
            swu := { s.swu with dl := dl' }, fg := { s.fg with label := .l8 } })
        ∧ (s.fg.label = .l8 → reached s.cfg s.ctr dl = true →
            exec .swuGetc s = .next { s with fg := { s.fg with label := .l9 } }))
    ∧ (∀ acc i, s.fg.label = .l5 → s.swu.acc = .written acc → s.swu.i = .written i →
        exec .swuGetc s = .next { s with
          trace := s.trace ++ [.rxSample s.ctr s.line.rx],
          swu := { s.swu with acc := .written (if s.line.rx then acc ||| ((1 : Byte) <<< i) else acc), i := .written (i + 1) },
          fg := { s.fg with s := s.line.rx, label := .l6 } })
    ∧ (∀ i, s.fg.label = .l6 → s.swu.i = .written i →
        exec .swuGetc s = .next { s with fg := { s.fg with label := if i < 8 then .l3 else .l7 } })
    ∧ (s.fg.label = .l9 → exec .swuGetc s = .next { s with
        trace := s.trace ++ [.rxSample s.ctr s.line.rx],
        swu := { s.swu with framingError := if s.line.rx = false then true else s.swu.framingError },
        fg := { s.fg with s := s.line.rx, label := .l10 } })
    ∧ (∀ acc, s.fg.label = .l10 → s.swu.acc = .written acc →
        exec .swuGetc s = .next { s with
          swu := { s.swu with rxAvailable := true },
          fg := { s.fg with ret := .written acc, k := s.fg.k + 1, label := .l0 } })

/-- The deadline comparison under each CTR_COMPARE, on counter values of CTR_W bits (R151). -/
def Obligations.DeadlineReached : Prop :=
  ∀ c t dl, t < 2 ^ c.ctrW → dl < 2 ^ c.ctrW →
    (c.ctrCompare = .wrapAware →
      (reached c t dl = true ↔ ((t : Int) - dl) % 2 ^ c.ctrW < 2 ^ (c.ctrW - 1)))
    ∧ (c.ctrCompare = .unsignedGe → (reached c t dl = true ↔ dl ≤ t))
    ∧ (c.ctrCompare = .equal → (reached c t dl = true ↔ t = dl))

/-- The waveform of SWU_PUTC when nothing delays it: drive `k` is at exactly `d0 + k*bt`, low for the start bit, bit
`k - 1` of the byte for a data bit, high for the stop bit; the operation ends at `d0 + 10*bt` with the line high
(R155). -/
def Obligations.PutcWaveform : Prop :=
  ∀ (b : Byte) (s : State) (level : Nat → Bool), s.fg.label = .l0 → s.cfg.ctrCompare = .wrapAware →
    2 ≤ s.cfg.ctrW → 0 < s.cfg.bitTime → s.cfg.bitTime < 2 ^ (s.cfg.ctrW - 1) → s.ctr < 2 ^ s.cfg.ctrW →
    ∃ t, undelayed (.swuPutc b) level (39 + 10 * s.cfg.bitTime) (s, 0) = (t, 10 * s.cfg.bitTime)
      ∧ t.trace = s.trace ++ (List.range 10).map (fun k =>
          Event.txLine ((s.ctr + k * s.cfg.bitTime) % 2 ^ s.cfg.ctrW)
            (if k = 0 then false else if k = 9 then true else b.getLsbD (k - 1)))
      ∧ t.ctr = (s.ctr + 10 * s.cfg.bitTime) % 2 ^ s.cfg.ctrW ∧ t.line.tx = true
      ∧ t.fg = { s.fg with k := s.fg.k + 1 }

/-- The samples of SWU_GETC when nothing delays it, from a start edge seen at `e`: data bit `k` is the line at
`e + D + (k+1)*bt`, the stop bit the line at `e + D + 9*bt`; the byte holds the data bits, least significant first, and
the framing error is set when the stop bit is low and kept otherwise. Here `bt` is F_SW div S_SW, and `D`, which is
SW_RX_START_DELAY, is `bt div 2` as decided, or `bt` as the alternative (R11, R150, R157, R158, R160; 90_conflicts.md C7). -/
def Obligations.GetcSamples : Prop :=
  ∀ (s : State) (level : Nat → Bool) (bt d : Nat), bt = s.cfg.fSw / s.cfg.sSw →
    d = (match s.cfg.startDelay with | .halfBit => bt / 2 | .wholeBit => bt) →
    s.fg.label = .l0 → s.cfg.ctrCompare = .wrapAware → 2 ≤ s.cfg.ctrW → 0 < bt → bt < 2 ^ (s.cfg.ctrW - 1) →
    d < 2 ^ (s.cfg.ctrW - 1) → s.ctr < 2 ^ s.cfg.ctrW → s.line.rx = false →
    let at_ := fun k => d + k * bt
    ∃ t v, undelayed .swuGetc level (39 + at_ 9) (s, 0) = (t, at_ 9)
      ∧ t.fg.ret = .written v ∧ (∀ k, k < 8 → v.getLsbD k = level (at_ (k + 1)))
      ∧ t.swu.framingError = (s.swu.framingError || !level (at_ 9)) ∧ t.swu.rxAvailable = true
      ∧ t.trace = s.trace ++ (List.range 9).map (fun k =>
          Event.rxSample ((s.ctr + at_ (k + 1)) % 2 ^ s.cfg.ctrW) (level (at_ (k + 1))))
      ∧ t.fg.k = s.fg.k + 1 ∧ t.fg.label = .l0

/-! ### Configuration and launch -/

/-- The baud values of R180, under each BAUD_RESIDUAL and BAUD_DOUBLE; a well-formed rate keeps BAUD_MOD at most 16
(R181), under every choice of the two. -/
def Obligations.BaudValues : Prop :=
  ∀ (c : Params) (m r f : Nat), 0 < c.sA →
    m = 8 * (c.freq c.clkA % c.sA) / c.sA →
    r = (match c.baudResidual with
      | .mod8 => 8 * (c.freq c.clkA % c.sA) % c.sA
      | .rem => c.freq c.clkA % c.sA) →
    f = 10 * r / c.sA →
    c.baudDiv = c.freq c.clkA / c.sA ∧ c.baudRem = c.freq c.clkA % c.sA
    ∧ c.baudDiv * c.sA + c.baudRem = c.freq c.clkA
    ∧ c.baudMod = (if f < 5 then (match c.baudDouble with | .elseOnly => m | .always => 2 * m) else 2 * (m + 1))
    ∧ c.baudMod ≤ 16

/-- The launch: every element of R63 at its reset value or at the launch's own (the program, the memory and its admitted
set, the counter and the lines), the configuration as given, interrupts enabled, and refused with CONFIG exactly where a
configuration is ill-formed; a refused launch has no step (R29, R56, R63, R150, R181, R220, R360 to R363, R367). That
the launch has R367's interrupt mask and not the reset value of R52 is log 22's. -/
def Obligations.LaunchState : Prop :=
  ∀ c g,
    let s := State.launch c g
    (s.refused = some .config ↔
      c.sSw = 0 ∨ c.fSw / c.sSw = 0 ∨ 2 ^ (c.ctrW - 1) ≤ c.fSw / c.sSw
      ∨ 2 ^ (c.ctrW - 1) ≤ (match c.startDelay with | .halfBit => c.fSw / c.sSw / 2 | .wholeBit => c.fSw / c.sSw)
      ∨ c.sA = 0 ∨ ¬ c.clkA < c.clockFreq.length ∨ c.baudDiv = 0 ∨ 2 ^ c.brW ≤ c.baudDiv
      ∨ 2 ^ c.brW ≤ c.baudRem ∨ 2 ^ c.modW ≤ c.baudMod
      ∨ c.roleB ≠ .master ∨ ¬ c.clkB < c.clockFreq.length ∨ c.i2cDiv = 0 ∨ 2 ^ c.brW ≤ c.i2cDiv)
    ∧ (s.refused = none ∨ s.refused = some .config)
    ∧ (s.refused = some .config → step s = .refused .config)
    ∧ s.fg.prog = g.prog ∧ s.fg.k = 0 ∧ s.fg.label = .l0 ∧ s.fg.ret = .unwritten
    ∧ s.swu = ⟨false, false, .unwritten, .unwritten, .unwritten, .unwritten⟩
    ∧ s.uart = ⟨0, 0, false, 0, 0, false, false⟩
    ∧ s.i2c = ⟨0, 0, false, .recv, .idle, 0⟩
    ∧ s.tg = ⟨false, 0, false⟩
    ∧ s.ueng = ⟨.unwritten, .unwritten, .unwritten, .unwritten, .unwritten, .unwritten, .unwritten, .unwritten,
        .unwritten, .unwritten, .unwritten, .unwritten, .unwritten, .unwritten, .unwritten, false⟩
    ∧ s.ieng = ⟨.unwritten, .unwritten, .unwritten, .unwritten, .unwritten, .unwritten, .unwritten, .unwritten,
        .unwritten, .unwritten, .unwritten, .unwritten, .unwritten, .unwritten, .unwritten, .unwritten, .unwritten,
        .unwritten, .unwritten, .unwritten, .unwritten, .unwritten, false⟩
    ∧ (∀ d, claimCount s.claims d = 0)
    ∧ s.cpu = ⟨false, true, .fg, .unwritten⟩ ∧ s.tickPending = false
    ∧ s.ctr = g.ctr ∧ s.line = ⟨g.lineTx, g.lineRx⟩ ∧ s.cfg = c
    ∧ s.mem = g.mem ∧ s.adm = g.adm ∧ s.trace = [] ∧ s.fault = []

/-- UART_INIT and I2C_INIT, line by line, with the release of the engine from its software reset (R182, R221, R271,
R280). The model's own: a hold under BOOLEAN counted as 1 (log 14). -/
def Obligations.InitLines : Prop :=
  ∀ s, s.cfg.configOk = true →
    let uart := fun (u : UartEngine) (l : Label) => exec .uartInit s = .next { s with
      ueng := u, fg := { s.fg with label := l } }
    let i2c := fun (u : I2cEngine) (l : Label) => exec .i2cInit s = .next { s with
      ieng := u, fg := { s.fg with label := l } }
    (s.fg.label = .l0 → ∃ l, exec .uartInit s = .next { s with claims := l, fg := { s.fg with label := .l1 } }
        ∧ ∀ d, claimCount l d = if d = s.cfg.clkA
            then (match s.cfg.claimKind with | .counter => claimCount s.claims d + 1 | .boolean => 1)
            else claimCount s.claims d)
    ∧ (s.fg.label = .l1 → uart { s.ueng with swrst := .written true } .l2)
    ∧ (s.fg.label = .l2 → uart { s.ueng with brDiv := .written s.cfg.baudDiv } .l3)
    ∧ (s.fg.label = .l3 → uart { s.ueng with brRem := .written s.cfg.baudRem } .l4)
    ∧ (s.fg.label = .l4 → uart { s.ueng with brMod := .written s.cfg.baudMod } .l5)
    ∧ (s.fg.label = .l5 → uart { s.ueng with clksel := .written s.cfg.clkA } .l6)
    ∧ (s.fg.label = .l6 → s.ueng.swrst = .written true →
        uart { s.ueng with swrst := .written false, txReady := .written true, rxReady := .written false,
                           txregFull := .written false, shifterFull := .written false, live := true } .l7)
    ∧ (s.fg.label = .l6 → s.ueng.swrst = .written false → uart s.ueng .l7)
    ∧ (s.fg.label = .l7 → uart { s.ueng with txIe := .written true } .l8)
    ∧ (s.fg.label = .l8 → exec .uartInit s = .next { s with
        ueng := { s.ueng with rxIe := .written true }, fg := { s.fg with k := s.fg.k + 1, label := .l0 } })
    ∧ (s.fg.label = .l0 → i2c { s.ieng with swrst := .written true } .l1)
    ∧ (s.fg.label = .l1 → i2c { s.ieng with master := .written true } .l2)
    ∧ (s.fg.label = .l2 → i2c { s.ieng with clksel := .written s.cfg.clkB } .l3)
    ∧ (s.fg.label = .l3 → i2c { s.ieng with presc := .written s.cfg.i2cDiv } .l4)
    ∧ (s.fg.label = .l4 → s.ieng.swrst = .written true → exec .i2cInit s = .next { s with
        i2c := { s.i2c with phase := .idle },
        ieng := { s.ieng with
          swrst := .written false, txReady := .written false, rxReady := .written false, nack := .written false,
          busBusy := .written false, startReq := .written false, stopReq := .written false,
          txregFull := .written false, shifterFull := .written false, estate := .written .idle, live := true },
        fg := { s.fg with label := .l5 } })
    ∧ (s.fg.label = .l4 → s.ieng.swrst = .written false → i2c s.ieng .l5)
    ∧ (s.fg.label = .l5 → i2c { s.ieng with txIe := .written true } .l6)
    ∧ (s.fg.label = .l6 → i2c { s.ieng with rxIe := .written true } .l7)
    ∧ (s.fg.label = .l7 → exec .i2cInit s = .next { s with
        ieng := { s.ieng with nackIe := .written true }, fg := { s.fg with k := s.fg.k + 1, label := .l0 } })

/-- A whole UART_INIT that no other agent's step comes between leaves the engine configured, enabled, released with an
empty transmitter, whatever it held before, so a second one leaves the same registers; under COUNTER it takes one more
claim; it writes no register of the driver (R183). A whole I2C_INIT likewise, without a claim, and returns the bus to
IDLE (R221). A hold under BOOLEAN is counted as 1 (log 14). -/
def Obligations.InitIsIdempotent : Prop :=
  ∀ s, s.fg.label = .l0 → s.cfg.configOk = true →
    (∃ t, execN 9 .uartInit s = .next t
      ∧ t.ueng = { s.ueng with
          swrst := .written false, brDiv := .written s.cfg.baudDiv, brRem := .written s.cfg.baudRem,
          brMod := .written s.cfg.baudMod, clksel := .written s.cfg.clkA, txIe := .written true,
          rxIe := .written true, txReady := .written true, rxReady := .written false, txregFull := .written false,
          shifterFull := .written false, live := true }
      ∧ t = { s with ueng := t.ueng, claims := t.claims, fg := { s.fg with k := s.fg.k + 1, label := .l0 } }
      ∧ ∀ d, claimCount t.claims d = if d = s.cfg.clkA
          then (match s.cfg.claimKind with | .counter => claimCount s.claims d + 1 | .boolean => 1)
          else claimCount s.claims d)
    ∧ (∃ t, execN 8 .i2cInit s = .next t
      ∧ t.ieng = { s.ieng with
          swrst := .written false, master := .written true, clksel := .written s.cfg.clkB,
          presc := .written s.cfg.i2cDiv, startReq := .written false, stopReq := .written false,
          txIe := .written true, rxIe := .written true, nackIe := .written true, txReady := .written false,
          rxReady := .written false, nack := .written false, busBusy := .written false,
          estate := .written .idle, txregFull := .written false, shifterFull := .written false, live := true }
      ∧ t = { s with ieng := t.ieng, i2c := { s.i2c with phase := .idle },
                     fg := { s.fg with k := s.fg.k + 1, label := .l0 } })

/-! ### The hardware UART driver -/

/-- UART_TRANSFER and UART_PUTC, line by line up to WAIT and after it, and the condition WAIT is called with: the
refusals, the session, the seed with the overwrite fault and the access outside ADM that has no step, and the return
(R80, R81, R185, R186, R272). A cursor one past the top of the address space is CursorPastTheTop's. The model's own: a
line that faults or refuses writes nothing but the record and keeps its position (log 21); `U.txbuf` holds the byte
handed over (log 17); the state stays where an access is not admitted (log 24); BUFFER_WRAPS comes before EMPTY_TRANSFER
(log 12). -/
def Obligations.UartTransmitLines : Prop :=
  ∀ (p : BitVec 32) (n : BitVec 16) (b : Byte) tmo s,
    let transfer := exec (.uartTransfer p n tmo) s
    let putc := exec (.uartPutc b tmo) s
    let seeded := fun (v : Byte) => Host.Outcome.next (φ := Fault) (ρ := Refusal) { s with
      ueng := { s.ueng with txbuf := .written v, txreg := .written v, txregFull := .written true,
                            txReady := .written false },
      fg := { s.fg with label := .w0 } }
    (s.fg.label = .l0 → s.ueng.live = true →
      transfer = .next (
        if 2 ^ s.cfg.addrW < p.toNat + n.toNat then { s with refused := some .bufferWraps }
        else if n.toNat = 0 then { s with refused := some .emptyTransfer }
        else { s with fg := { s.fg with label := .l1 } }))
    ∧ (s.fg.label = .l1 → transfer = .next { s with
        uart := { s.uart with txCount := n.toNat }, fg := { s.fg with label := .l2 } })
    ∧ (s.fg.label = .l2 → p.toNat + 1 < 2 ^ s.cfg.addrW → transfer = .next { s with
        uart := { s.uart with txCursor := p.toNat + 1 }, fg := { s.fg with label := .l3 } })
    ∧ (s.fg.label = .l3 → transfer = .next { s with
        uart := { s.uart with txDone := false }, fg := { s.fg with label := .l4 } })
    ∧ (s.fg.label = .l4 → s.admitted p.toNat = false → transfer = .next s)
    ∧ (s.fg.label = .l4 → s.admitted p.toNat = true → s.ueng.txregFull = .written false →
        transfer = seeded (memGet s.mem p.toNat))
    ∧ (s.fg.label = .l4 → s.admitted p.toNat = true → s.ueng.txregFull = .written true →
        transfer = .next { s with fault := s.fault ++ [⟨.txbufOverwrite, .fg, .fg s.fg.k .l4⟩] })
    ∧ (s.fg.label = .l6 → transfer = .next { s with fg := { s.fg with k := s.fg.k + 1, label := .l0 } })
    ∧ (s.fg.label = .l0 → s.ueng.live = true → putc = .next { s with
        uart := { s.uart with txCount := 1 }, fg := { s.fg with label := .l2 } })
    ∧ (s.fg.label = .l2 → putc = .next { s with
        uart := { s.uart with txDone := false }, fg := { s.fg with label := .l3 } })
    ∧ (s.fg.label = .l3 → s.ueng.txregFull = .written false → putc = seeded b)
    ∧ (s.fg.label = .l3 → s.ueng.txregFull = .written true →
        putc = .next { s with fault := s.fault ++ [⟨.txbufOverwrite, .fg, .fg s.fg.k .l3⟩] })
    ∧ (s.fg.label = .l5 → putc = .next { s with fg := { s.fg with k := s.fg.k + 1, label := .l0 } })
    ∧ waitOf s (.uartTransfer p n tmo) = some (s.uart.txDone, tmo.map BitVec.toNat, .l6)
    ∧ waitOf s (.uartPutc b tmo) = some (s.uart.txDone, tmo.map BitVec.toNat, .l5)

/-- UART_PUTS, line by line up to WAIT and after it, and the condition WAIT is called with: the scan with its refusals,
then the session and seed of UART_TRANSFER with `n = fg.len` (R187). The model's own: a line that faults or refuses
writes nothing but the record and keeps its position (log 21); `U.txbuf` holds the byte handed over (log 17); the state
stays where an access is not admitted (log 24). -/
def Obligations.UartPutsLines : Prop :=
  ∀ (p : BitVec 32) tmo s,
    let puts := exec (.uartPuts p tmo) s
    (s.fg.label = .l0 → s.ueng.live = true → puts = .next { s with fg := { s.fg with len := 0, label := .l1 } })
    ∧ (s.fg.label = .l1 → s.admitted (p.toNat + s.fg.len) = true → puts = .next { s with
        fg := { s.fg with b := memGet s.mem (p.toNat + s.fg.len), label := .l2 } })
    ∧ (s.fg.label = .l1 → s.admitted (p.toNat + s.fg.len) = false → puts = .next s)
    ∧ (s.fg.label = .l2 → s.fg.b = 0 → puts = .next { s with fg := { s.fg with label := .l3 } })
    ∧ (s.fg.label = .l2 → s.fg.b ≠ 0 →
        (2 ^ s.cfg.addrW ≤ p.toNat + s.fg.len + 1 ∨ 2 ^ s.cfg.countW ≤ s.fg.len + 1) →
        puts = .next { s with refused := some .bufferWraps })
    ∧ (s.fg.label = .l2 → s.fg.b ≠ 0 → p.toNat + s.fg.len + 1 < 2 ^ s.cfg.addrW →
        s.fg.len + 1 < 2 ^ s.cfg.countW →
        puts = .next { s with fg := { s.fg with len := s.fg.len + 1, label := .l1 } })
    ∧ (s.fg.label = .l3 → s.fg.len = 0 → puts = .next { s with refused := some .emptyTransfer })
    ∧ (s.fg.label = .l3 → s.fg.len ≠ 0 → puts = .next { s with fg := { s.fg with label := .l4 } })
    ∧ (s.fg.label = .l4 → puts = .next { s with fg := { s.fg with label := .x1 } })
    ∧ (s.fg.label = .x1 → puts = .next { s with
        uart := { s.uart with txCount := s.fg.len }, fg := { s.fg with label := .x2 } })
    ∧ (s.fg.label = .x2 → p.toNat + 1 < 2 ^ s.cfg.addrW → puts = .next { s with
        uart := { s.uart with txCursor := p.toNat + 1 }, fg := { s.fg with label := .x3 } })
    ∧ (s.fg.label = .x3 → puts = .next { s with
        uart := { s.uart with txDone := false }, fg := { s.fg with label := .x4 } })
    ∧ (s.fg.label = .x4 → s.admitted p.toNat = false → puts = .next s)
    ∧ (s.fg.label = .x4 → s.admitted p.toNat = true → s.ueng.txregFull = .written false → puts = .next { s with
        ueng := { s.ueng with txbuf := .written (memGet s.mem p.toNat), txreg := .written (memGet s.mem p.toNat),
                              txregFull := .written true, txReady := .written false },
        fg := { s.fg with label := .w0 } })
    ∧ (s.fg.label = .x4 → s.admitted p.toNat = true → s.ueng.txregFull = .written true →
        puts = .next { s with fault := s.fault ++ [⟨.txbufOverwrite, .fg, .fg s.fg.k .x4⟩] })
    ∧ (s.fg.label = .x6 → puts = .next { s with fg := { s.fg with k := s.fg.k + 1, label := .l0 } })
    ∧ waitOf s (.uartPuts p tmo) = some (s.uart.txDone, tmo.map BitVec.toNat, .x6)

/-- The scan of UART_PUTS over a string of `n` non-zero bytes and a zero, all admitted, that fits the widths: it reaches
the session lines with `fg.len = n`, having changed nothing but the foreground's own locals and position; a string whose
`n` non-zero bytes reach the end of the address space is refused (R187). -/
def Obligations.UartPutsScan : Prop :=
  ∀ (p : BitVec 32) tmo s (n : Nat), s.fg.label = .l0 → s.ueng.live = true → 0 < n →
    (∀ k, k < n → s.admitted (p.toNat + k) = true ∧ memGet s.mem (p.toNat + k) ≠ 0) →
    (p.toNat + n < 2 ^ s.cfg.addrW → n < 2 ^ s.cfg.countW → s.admitted (p.toNat + n) = true →
      memGet s.mem (p.toNat + n) = 0 →
      execN (2 * n + 5) (.uartPuts p tmo) s = .next { s with
        fg := { s.fg with len := n, b := 0, label := .x1 } })
    ∧ (p.toNat + n = 2 ^ s.cfg.addrW → n < 2 ^ s.cfg.countW →
      ∃ t, execN (2 * n + 1) (.uartPuts p tmo) s = .next t ∧ t.refused = some .bufferWraps)

/-- UART_GETC, line by line up to WAIT and after it, and the condition WAIT is called with (R194). -/
def Obligations.UartGetcLines : Prop :=
  ∀ tmo s,
    (s.fg.label = .l0 → s.ueng.live = true → exec (.uartGetc tmo) s = .next { s with
      uart := { s.uart with rxCount := 0 }, fg := { s.fg with label := .l1 } })
    ∧ (s.fg.label = .l1 → exec (.uartGetc tmo) s = .next { s with
        uart := { s.uart with rxAvailable := false }, fg := { s.fg with label := .w0 } })
    ∧ (s.fg.label = .l3 → exec (.uartGetc tmo) s = .next { s with
        uart := { s.uart with rxAvailable := if s.uart.rxCount = 1 then true else s.uart.rxAvailable },
        fg := { s.fg with label := .l4 } })
    ∧ (s.fg.label = .l4 → exec (.uartGetc tmo) s = .next { s with
        fg := { s.fg with ret := .written s.uart.rxByte, k := s.fg.k + 1, label := .l0 } })
    ∧ waitOf s (.uartGetc tmo) = some (decide (s.uart.rxCount = 1), tmo.map BitVec.toNat, .l3)

/-- UART_HANDLE_TX_IRQ and UART_HANDLE_RX_IRQ, line by line, an unwritten flag probing as 0 (R192, R193, R272, R276,
R333). The model's own: the line T3 that faults writes nothing but the record and keeps its position (log 21), which for
the interrupt context is its context and label (log 25); `U.txbuf` holds the byte handed over (log 17); the state stays
where an access is not admitted (log 24). -/
def Obligations.UartHandlerLines : Prop :=
  ∀ s,
    let tx := exec .uartHandleTxIrq s
    let rx := exec .uartHandleRxIrq s
    let at_ := fun l => { s.irq with label := l }
    let back := fun w => { s.irq with label := IrqLabel.d2, wh := w }
    (s.irq.label = .t0 → s.ueng.txReady ≠ .written true → tx = .next { s with irq := back false })
    ∧ (s.irq.label = .t0 → s.ueng.txReady = .written true → tx = .next { s with irq := at_ .t1 })
    ∧ (s.irq.label = .t1 → tx = .next { s with
        uart := { s.uart with txCount := if 0 < s.uart.txCount then s.uart.txCount - 1 else s.uart.txCount },
        irq := at_ .t2 })
    ∧ (s.irq.label = .t2 → tx = .next { s with irq := at_ (if 0 < s.uart.txCount then .t3 else .t5) })
    ∧ (s.irq.label = .t3 → s.admitted s.uart.txCursor = false → tx = .next s)
    ∧ (s.irq.label = .t3 → s.admitted s.uart.txCursor = true → s.ueng.txregFull = .written false → tx = .next { s with
        ueng := { s.ueng with
          txbuf := .written (memGet s.mem s.uart.txCursor), txreg := .written (memGet s.mem s.uart.txCursor),
          txregFull := .written true, txReady := .written false },
        irq := at_ .t4 })
    ∧ (s.irq.label = .t3 → s.admitted s.uart.txCursor = true → s.ueng.txregFull = .written true →
        tx = .next { s with fault := s.fault ++ [⟨.txbufOverwrite, .irq, .irq s.cpu.ctx .t3⟩] })
    ∧ (s.irq.label = .t4 → s.uart.txCursor + 1 < 2 ^ s.cfg.addrW → tx = .next { s with
        uart := { s.uart with txCursor := s.uart.txCursor + 1 }, irq := back false })
    ∧ (s.irq.label = .t5 → tx = .next { s with uart := { s.uart with txDone := true }, irq := at_ .t6 })
    ∧ (s.irq.label = .t6 → tx = .next { s with
        ueng := if s.cfg.uartTxExhaust = .clearFlag then { s.ueng with txReady := .written false } else s.ueng,
        irq := at_ .t7 })
    ∧ (s.irq.label = .t7 → tx = .next { s with irq := back true })
    ∧ (s.irq.label = .q0 → s.ueng.rxReady ≠ .written true → rx = .next { s with irq := back false })
    ∧ (s.irq.label = .q0 → s.ueng.rxReady = .written true → rx = .next { s with irq := at_ .q1 })
    ∧ (∀ v, s.irq.label = .q1 → s.ueng.rxbuf = .written v → rx = .next { s with
        ueng := { s.ueng with rxReady := .written false }, uart := { s.uart with rxByte := v }, irq := at_ .q2 })
    ∧ (s.irq.label = .q2 → rx = .next { s with uart := { s.uart with rxCount := 1 }, irq := at_ .q3 })
    ∧ (s.irq.label = .q3 → rx = .next { s with irq := back true })

/-! ### The I2C driver -/

/-- I2C_TRANSFER, I2C_SEND (as `dir = SEND`) and I2C_RECEIVE (as `dir = RECV`), line by line up to WAIT and after it,
and the condition WAIT is called with (R81, R224, R227, R228). The model's own: a line that faults or refuses writes
nothing but the record and keeps its position (log 21); BUFFER_WRAPS comes before EMPTY_TRANSFER (log 12); a hold is
counted as 0 or 1 (log 14). -/
def Obligations.I2cTransferLines : Prop :=
  ∀ i dir a p n tmo s, i2cOperands i = some (dir, a, p, n, tmo) →
    let ieng := fun (u : I2cEngine) (l : Label) => exec i s = .next { s with
      ieng := u, fg := { s.fg with label := l } }
    let i2c := fun (u : I2c) (l : Label) => exec i s = .next { s with i2c := u, fg := { s.fg with label := l } }
    let goes := fun l => exec i s = .next { s with fg := { s.fg with label := l } }
    (s.fg.label = .l0 → s.ieng.live = true →
      exec i s = .next (
        if 2 ^ s.cfg.addrW < p + n then { s with refused := some .bufferWraps }
        else if dir = .recv ∧ n = 0 then { s with refused := some .emptyTransfer }
        else { s with fg := { s.fg with label := .l1 } }))
    ∧ (s.fg.label = .l1 → ∃ l, exec i s = .next { s with claims := l, fg := { s.fg with label := .l2 } }
        ∧ ∀ d, claimCount l d = if d = s.cfg.clkB
            then (match s.cfg.claimKind with | .counter => claimCount s.claims d + 1 | .boolean => 1)
            else claimCount s.claims d)
    ∧ (s.fg.label = .l2 → ieng { s.ieng with dirTx := .written (decide (dir = .send)) } .l3)
    ∧ (s.fg.label = .l3 → ieng { s.ieng with sa := .written a } .l4)
    ∧ (s.fg.label = .l4 → i2c { s.i2c with count := n } .l5)
    ∧ (s.fg.label = .l5 → i2c { s.i2c with cursor := p } .l6)
    ∧ (s.fg.label = .l6 → i2c { s.i2c with done := false } .l7)
    ∧ (s.fg.label = .l7 → i2c { s.i2c with dir := dir } .l8)
    ∧ (s.fg.label = .l8 → ieng { s.ieng with startReq := .written true } .l9)
    ∧ (s.fg.label = .l9 → goes (if dir = .recv ∧ n = 1 then .l10 else .w0))
    ∧ (s.fg.label = .l10 → s.ieng.startReq = .written true → exec i s = .next s)
    ∧ (s.fg.label = .l10 → s.ieng.startReq = .written false → goes .l11)
    ∧ (s.fg.label = .l11 → ieng { s.ieng with stopReq := .written true } .w0)
    ∧ (s.fg.label = .l13 → s.ieng.busBusy = .written true → exec i s = .next s)
    ∧ (s.fg.label = .l13 → s.ieng.busBusy = .written false → goes .l14)
    ∧ (s.fg.label = .l14 → (s.cfg.claimKind = .counter → 0 < claimCount s.claims s.cfg.clkB) →
        ∃ l, exec i s = .next { s with claims := l, fg := { s.fg with k := s.fg.k + 1, label := .l0 } }
          ∧ ∀ d, claimCount l d = if d = s.cfg.clkB
              then (match s.cfg.claimKind with | .counter => claimCount s.claims d - 1 | .boolean => 0)
              else claimCount s.claims d)
    ∧ (s.fg.label = .l14 → s.cfg.claimKind = .counter → claimCount s.claims s.cfg.clkB = 0 →
        exec i s = .next { s with fault := s.fault ++ [⟨.releaseUnderflow, .fg, .fg s.fg.k .l14⟩] })
    ∧ waitOf s i = some (s.i2c.done, tmo, .l13)

/-- I2C_HANDLE_TX_IRQ, line by line (R230, R231, R293, R333). The model's own: the line T2 that faults writes nothing
but the record and keeps its position (log 21), which for the interrupt context is its context and label (log 25);
`I.txbuf` holds the byte handed over (log 17); the state stays where an access is not admitted (log 24). -/
def Obligations.I2cTransmitHandlerLines : Prop :=
  ∀ s,
    let tx := exec .i2cHandleTxIrq s
    let at_ := fun l => { s.irq with label := l }
    let back := fun w => { s.irq with label := IrqLabel.d2, wh := w }
    (s.irq.label = .t0 → s.ieng.txReady ≠ .written true → tx = .next { s with irq := back false })
    ∧ (s.irq.label = .t0 → s.ieng.txReady = .written true → tx = .next { s with irq := at_ .t1 })
    ∧ (s.irq.label = .t1 → tx = .next { s with irq := at_ (if 0 < s.i2c.count then .t2 else .t5) })
    ∧ (s.irq.label = .t2 → s.admitted s.i2c.cursor = false → tx = .next s)
    ∧ (s.irq.label = .t2 → s.admitted s.i2c.cursor = true → s.ieng.txregFull = .written false → tx = .next { s with
        ieng := { s.ieng with
          txbuf := .written (memGet s.mem s.i2c.cursor), txreg := .written (memGet s.mem s.i2c.cursor),
          txregFull := .written true, txReady := .written false },
        irq := at_ .t3 })
    ∧ (s.irq.label = .t2 → s.admitted s.i2c.cursor = true → s.ieng.txregFull = .written true →
        tx = .next { s with fault := s.fault ++ [⟨.txbufOverwrite, .irq, .irq s.cpu.ctx .t2⟩] })
    ∧ (s.irq.label = .t3 → s.i2c.cursor + 1 < 2 ^ s.cfg.addrW → tx = .next { s with
        i2c := { s.i2c with cursor := s.i2c.cursor + 1 }, irq := at_ .t4 })
    ∧ (s.irq.label = .t4 → tx = .next { s with i2c := { s.i2c with count := s.i2c.count - 1 }, irq := back false })
    ∧ (s.irq.label = .t5 → tx = .next { s with ieng := { s.ieng with stopReq := .written true }, irq := at_ .t6 })
    ∧ (s.irq.label = .t6 → tx = .next { s with i2c := { s.i2c with done := true }, irq := at_ .t7 })
    ∧ (s.irq.label = .t7 → tx = .next { s with
        ieng := if s.cfg.i2cTxExhaust = .clearFlag then { s.ieng with txReady := .written false } else s.ieng,
        irq := at_ .t8 })
    ∧ (s.irq.label = .t8 → tx = .next { s with irq := back true })

/-- I2C_HANDLE_RX_IRQ, line by line: the NACK retry first, then the STOP policy, the read, the store of the byte at the
cursor and nowhere else, and the completion (R232 to R235, R294, R333). The model's own: the state stays where the store
is not admitted (log 24). -/
def Obligations.I2cReceiveHandlerLines : Prop :=
  ∀ s,
    let rx := exec .i2cHandleRxIrq s
    let at_ := fun l => { s.irq with label := l }
    let back := fun w => { s.irq with label := IrqLabel.d2, wh := w }
    let stop := { s.ieng with stopReq := .written true }
    (s.irq.label = .n0 → s.ieng.nack ≠ .written true → rx = .next { s with irq := at_ .q0 })
    ∧ (s.irq.label = .n0 → s.ieng.nack = .written true → rx = .next { s with irq := at_ .n1 })
    ∧ (s.irq.label = .n1 → rx = .next { s with ieng := { s.ieng with nack := .written false }, irq := at_ .n2 })
    ∧ (s.irq.label = .n2 → rx = .next { s with
        ieng := { s.ieng with startReq := .written true }, i2c := { s.i2c with retries := s.i2c.retries + 1 },
        irq := at_ .n3 })
    ∧ (s.irq.label = .n3 → rx = .next { s with irq := back false })
    ∧ (s.irq.label = .q0 → s.ieng.rxReady ≠ .written true → rx = .next { s with irq := back false })
    ∧ (s.irq.label = .q0 → s.ieng.rxReady = .written true → rx = .next { s with irq := at_ .q1 })
    ∧ (s.irq.label = .q1 → rx = .next { s with
        ieng := if (s.cfg.rxStopPolicy = .preLe2 ∧ s.i2c.count ≤ 2) ∨ (s.cfg.rxStopPolicy = .preEq2 ∧ s.i2c.count = 2)
          then stop else s.ieng,
        irq := at_ .q2 })
    ∧ (∀ v, s.irq.label = .q2 → s.ieng.rxbuf = .written v → rx = .next { s with
        ieng := { s.ieng with rxReady := .written false }, irq := { s.irq with r := v, label := .q3 } })
    ∧ (s.irq.label = .q3 → s.i2c.count = 0 → rx = .next { s with irq := back false })
    ∧ (s.irq.label = .q3 → s.i2c.count ≠ 0 → rx = .next { s with irq := at_ .q4 })
    ∧ (s.irq.label = .q4 → s.admitted s.i2c.cursor = false → rx = .next s)
    ∧ (s.irq.label = .q4 → s.admitted s.i2c.cursor = true → Memory.wf s.mem = true →
        ∃ m, rx = .next { s with mem := m, irq := at_ .q5 } ∧ Memory.wf m = true
          ∧ ∀ a, memGet m a = if a = s.i2c.cursor then s.irq.r else memGet s.mem a)
    ∧ (s.irq.label = .q5 → s.i2c.cursor + 1 < 2 ^ s.cfg.addrW → rx = .next { s with
        i2c := { s.i2c with cursor := s.i2c.cursor + 1 }, irq := at_ .q6 })
    ∧ (s.irq.label = .q6 → rx = .next { s with i2c := { s.i2c with count := s.i2c.count - 1 }, irq := at_ .q7 })
    ∧ (s.irq.label = .q7 → rx = .next { s with
        ieng := if s.cfg.rxStopPolicy = .postEq1 ∧ s.i2c.count = 1 then stop else s.ieng, irq := at_ .q8 })
    ∧ (s.irq.label = .q8 → s.i2c.count = 0 → rx = .next { s with
        i2c := { s.i2c with done := true }, irq := back true })
    ∧ (s.irq.label = .q8 → s.i2c.count ≠ 0 → rx = .next { s with irq := at_ .q9 })
    ∧ (s.irq.label = .q9 → rx = .next { s with irq := back false })

/-- One whole call of each handler with no engine step inside it: a UART feed and the UART completion (R192, R199), the
UART byte (R193), an I2C feed and the I2C exhaustion (R230), the NACK retry (R234). The model's own: the transmit buffer
register holds the byte a feed handed over (log 17). A feed from the last address is CursorPastTheTop's. -/
def Obligations.HandlerCalls : Prop :=
  ∀ s,
    (s.irq.label = .t0 → s.ueng.txReady = .written true → s.ueng.txregFull = .written false →
      (2 ≤ s.uart.txCount → s.admitted s.uart.txCursor = true → s.uart.txCursor + 1 < 2 ^ s.cfg.addrW →
        execN 5 .uartHandleTxIrq s = .next { s with
          uart := { s.uart with txCount := s.uart.txCount - 1, txCursor := s.uart.txCursor + 1 },
          ueng := { s.ueng with
            txbuf := .written (memGet s.mem s.uart.txCursor), txreg := .written (memGet s.mem s.uart.txCursor),
            txregFull := .written true, txReady := .written false },
          irq := { s.irq with label := .d2, wh := false } })
      ∧ (s.uart.txCount ≤ 1 →
        execN 6 .uartHandleTxIrq s = .next { s with
          uart := { s.uart with txCount := 0, txDone := true },
          ueng := if s.cfg.uartTxExhaust = .clearFlag then { s.ueng with txReady := .written false } else s.ueng,
          irq := { s.irq with label := .d2, wh := true } }))
    ∧ (∀ v, s.irq.label = .q0 → s.ueng.rxReady = .written true → s.ueng.rxbuf = .written v →
        execN 4 .uartHandleRxIrq s = .next { s with
          uart := { s.uart with rxByte := v, rxCount := 1 },
          ueng := { s.ueng with rxReady := .written false },
          irq := { s.irq with label := .d2, wh := true } })
    ∧ (s.irq.label = .t0 → s.ieng.txReady = .written true → s.ieng.txregFull = .written false →
        (0 < s.i2c.count → s.admitted s.i2c.cursor = true → s.i2c.cursor + 1 < 2 ^ s.cfg.addrW →
          execN 5 .i2cHandleTxIrq s = .next { s with
            i2c := { s.i2c with count := s.i2c.count - 1, cursor := s.i2c.cursor + 1 },
            ieng := { s.ieng with
              txbuf := .written (memGet s.mem s.i2c.cursor), txreg := .written (memGet s.mem s.i2c.cursor),
              txregFull := .written true, txReady := .written false },
            irq := { s.irq with label := .d2, wh := false } })
        ∧ (s.i2c.count = 0 →
          execN 6 .i2cHandleTxIrq s = .next { s with
            i2c := { s.i2c with done := true },
            ieng := if s.cfg.i2cTxExhaust = .clearFlag
              then { s.ieng with stopReq := .written true, txReady := .written false }
              else { s.ieng with stopReq := .written true },
            irq := { s.irq with label := .d2, wh := true } }))
    ∧ (s.irq.label = .n0 → s.ieng.nack = .written true →
        execN 4 .i2cHandleRxIrq s = .next { s with
          i2c := { s.i2c with retries := s.i2c.retries + 1 },
          ieng := { s.ieng with nack := .written false, startReq := .written true },
          irq := { s.irq with label := .d2, wh := false } })

/-- One whole call of the I2C receive handler, from N0, on a received byte and with no address NACK (HandlerCalls has the
call that retries one), no engine step inside it: the byte goes to the cursor's address, the count and
cursor go on, and a wake is requested exactly when it was the last; under PRE_LE_2 and PRE_EQ_2 the STOP of the last two
bytes is requested before the read that lets the engine clock the next byte in (R232, R233, R235). -/
def Obligations.I2cReceiveCall : Prop :=
  ∀ s v, s.irq.label = .n0 → s.ieng.nack ≠ .written true → s.ieng.rxReady = .written true → s.ieng.rxbuf = .written v → 0 < s.i2c.count →
    s.admitted s.i2c.cursor = true → s.i2c.cursor + 1 < 2 ^ s.cfg.addrW → Memory.wf s.mem = true →
    (∃ t, execN (if s.i2c.count = 1 then 10 else 11) .i2cHandleRxIrq s = .next t
      ∧ t.irq.label = .d2 ∧ t.irq.wh = decide (s.i2c.count = 1)
      ∧ t.i2c = { s.i2c with count := s.i2c.count - 1, cursor := s.i2c.cursor + 1,
                             done := s.i2c.done || decide (s.i2c.count = 1) }
      ∧ ∀ a, memGet t.mem a = if a = s.i2c.cursor then v else memGet s.mem a)
    ∧ ((s.cfg.rxStopPolicy = .preLe2 ∧ s.i2c.count ≤ 2) ∨ (s.cfg.rxStopPolicy = .preEq2 ∧ s.i2c.count = 2) →
      ∀ n u, n ≤ 10 → execN n .i2cHandleRxIrq s = .next u → u.ieng.rxReady = .written false →
        u.ieng.stopReq = .written true)

/-- The value a cursor takes one past the top of the address space: some address, a free value, and nothing else differs
from the cursor's own line (R13, R81; the model's choice, log 11). -/
def Obligations.CursorPastTheTop : Prop :=
  ∀ s,
    (∀ (p : BitVec 32) n tmo, s.fg.label = .l2 → 2 ^ s.cfg.addrW ≤ p.toNat + 1 →
      ∃ v, v < 2 ^ s.cfg.addrW ∧ exec (.uartTransfer p n tmo) s = .next { s with
        uart := { s.uart with txCursor := v }, fg := { s.fg with label := .l3 },
        sched := { s.sched with freed := s.sched.freed + 1 } })
    ∧ (∀ (p : BitVec 32) tmo, s.fg.label = .x2 → 2 ^ s.cfg.addrW ≤ p.toNat + 1 →
      ∃ v, v < 2 ^ s.cfg.addrW ∧ exec (.uartPuts p tmo) s = .next { s with
        uart := { s.uart with txCursor := v }, fg := { s.fg with label := .x3 },
        sched := { s.sched with freed := s.sched.freed + 1 } })
    ∧ (s.irq.label = .t4 → 2 ^ s.cfg.addrW ≤ s.uart.txCursor + 1 →
      ∃ v, v < 2 ^ s.cfg.addrW ∧ exec .uartHandleTxIrq s = .next { s with
        uart := { s.uart with txCursor := v }, irq := { s.irq with label := .d2, wh := false },
        sched := { s.sched with freed := s.sched.freed + 1 } })
    ∧ (s.irq.label = .t3 → 2 ^ s.cfg.addrW ≤ s.i2c.cursor + 1 →
      ∃ v, v < 2 ^ s.cfg.addrW ∧ exec .i2cHandleTxIrq s = .next { s with
        i2c := { s.i2c with cursor := v }, irq := { s.irq with label := .t4 },
        sched := { s.sched with freed := s.sched.freed + 1 } })
    ∧ (s.irq.label = .q5 → 2 ^ s.cfg.addrW ≤ s.i2c.cursor + 1 →
      ∃ v, v < 2 ^ s.cfg.addrW ∧ exec .i2cHandleRxIrq s = .next { s with
        i2c := { s.i2c with cursor := v }, irq := { s.irq with label := .q6 },
        sched := { s.sched with freed := s.sched.freed + 1 } })

/-- Where a micro-step stops instead of having its effect: reading an unwritten element faults, with the agent and its
position (R58, R65; the interrupt context's is its context and label, log 25); writing outside a register's legal values is refused (R61); a transfer of a driver whose engine was
never released is refused at its first micro-step (R364). Two things are the model's choice: that such a line changes
nothing but the record, also where it lists an effect before the read (log 21), and that NOT_INITIALISED comes first where
BUFFER_WRAPS or EMPTY_TRANSFER applies too (log 12). -/
def Obligations.MicroStepsThatStop : Prop :=
  ∀ s,
    let refused := fun r => Host.Outcome.next (φ := Fault) (ρ := Refusal) { s with refused := some r }
    let fg := Host.Outcome.next (φ := Fault) (ρ := Refusal)
      { s with fault := s.fault ++ [⟨.unwrittenRead, .fg, .fg s.fg.k s.fg.label⟩] }
    let irq := Host.Outcome.next (φ := Fault) (ρ := Refusal)
      { s with fault := s.fault ++ [⟨.unwrittenRead, .irq, .irq s.cpu.ctx s.irq.label⟩] }
    (∀ b, s.swu.dl = .unwritten → s.fg.label ∈ [Label.l2, .l3, .l5, .l6, .l9, .l10] → exec (.swuPutc b) s = fg)
    ∧ (∀ b, s.swu.sh = .unwritten → s.fg.label = .l4 → exec (.swuPutc b) s = fg)
    ∧ (∀ b, s.swu.i = .unwritten → s.fg.label ∈ [Label.l5, .l7] → exec (.swuPutc b) s = fg)
    ∧ (s.swu.dl = .unwritten → s.fg.label ∈ [Label.l2, .l3, .l4, .l7, .l8] → exec .swuGetc s = fg)
    ∧ (s.swu.acc = .unwritten → s.fg.label ∈ [Label.l5, .l10] → exec .swuGetc s = fg)
    ∧ (s.swu.i = .unwritten → s.fg.label ∈ [Label.l5, .l6] → exec .swuGetc s = fg)
    ∧ (∀ p n tmo, s.ueng.txregFull = .unwritten → s.fg.label = .l4 → s.admitted p.toNat = true →
        exec (.uartTransfer p n tmo) s = fg)
    ∧ (∀ p tmo, s.ueng.txregFull = .unwritten → s.fg.label = .x4 → s.admitted p.toNat = true →
        exec (.uartPuts p tmo) s = fg)
    ∧ (∀ b tmo, s.ueng.txregFull = .unwritten → s.fg.label = .l3 → exec (.uartPutc b tmo) s = fg)
    ∧ (∀ i, (i2cOperands i).isSome = true → s.ieng.startReq = .unwritten → s.fg.label = .l10 → exec i s = fg)
    ∧ (∀ i, (i2cOperands i).isSome = true → s.ieng.busBusy = .unwritten → s.fg.label = .l13 → exec i s = fg)
    ∧ (s.ueng.txregFull = .unwritten → s.irq.label = .t3 → s.admitted s.uart.txCursor = true →
        exec .uartHandleTxIrq s = irq)
    ∧ (s.ieng.txregFull = .unwritten → s.irq.label = .t2 → s.admitted s.i2c.cursor = true →
        exec .i2cHandleTxIrq s = irq)
    ∧ (s.ueng.rxbuf = .unwritten → s.irq.label = .q1 → exec .uartHandleRxIrq s = irq)
    ∧ (s.ieng.rxbuf = .unwritten → s.irq.label = .q2 → exec .i2cHandleRxIrq s = irq)
    ∧ (s.cpu.saved = .unwritten → s.irq.label = .k2 → exec .tickIsr s = irq)
    ∧ (∀ num v j w, s.cpu.saved = .unwritten → s.irq.label = .d3 → s.cpu.ctx = .irq v j w → vecOf s.cfg num = some v →
        exec (.dispatch num) s = irq)
    ∧ (s.fg.label = .l2 → (s.cfg.baudDiv = 0 ∨ 2 ^ s.cfg.brW ≤ s.cfg.baudDiv) → exec .uartInit s = refused .illegalRegisterValue)
    ∧ (s.fg.label = .l3 → 2 ^ s.cfg.brW ≤ s.cfg.baudRem → exec .uartInit s = refused .illegalRegisterValue)
    ∧ (s.fg.label = .l4 → 2 ^ s.cfg.modW ≤ s.cfg.baudMod → exec .uartInit s = refused .illegalRegisterValue)
    ∧ (s.fg.label = .l5 → s.cfg.clockFreq.length ≤ s.cfg.clkA → exec .uartInit s = refused .illegalRegisterValue)
    ∧ (s.fg.label = .l2 → s.cfg.clockFreq.length ≤ s.cfg.clkB → exec .i2cInit s = refused .illegalRegisterValue)
    ∧ (s.fg.label = .l3 → (s.cfg.i2cDiv = 0 ∨ 2 ^ s.cfg.brW ≤ s.cfg.i2cDiv) → exec .i2cInit s = refused .illegalRegisterValue)
    ∧ (∀ i, needsUart i = true → s.ueng.live = false → s.fg.label = .l0 → exec i s = refused .notInitialised)
    ∧ (∀ i, (i2cOperands i).isSome = true → s.ieng.live = false → s.fg.label = .l0 →
        exec i s = refused .notInitialised)

/-! ### The environment -/

/-- The UART engine's steps where it runs, and the counter, tick and line steps, which always may (R273 to R275, R300 to
R302). A choice whose step is not enabled leaves the state (log 2). -/
def Obligations.UartEngineAndClockSteps : Prop :=
  ∀ s t c, Moves c s t →
    (uartRunning t = true → EnginesFree t → ¬ Faulted .envU t →
      (∀ v, c = .uLoad → t.ueng.txregFull = .written true → t.ueng.shifterFull = .written false →
        t.ueng.txreg = .written v → step s = .next { t with ueng := { t.ueng with
          shifter := .written v, shifterFull := .written true, txregFull := .written false,
          txReady := .written true } })
      ∧ (c = .uLoad → (t.ueng.txregFull ≠ .written true ∨ t.ueng.shifterFull ≠ .written false) → step s = .next t)
      ∧ (∀ v, c = .uShiftOut → t.ueng.shifterFull = .written true → t.ueng.shifter = .written v →
        step s = .next { t with trace := t.trace ++ [.uOut v],
                                ueng := { t.ueng with shifterFull := .written false } })
      ∧ (c = .uShiftOut → t.ueng.shifterFull ≠ .written true → step s = .next t)
      ∧ (∀ v, c = .uReceive v → step s = .next { t with
          trace := t.trace ++ [.uIn v],
          ueng := { t.ueng with rxbuf := .written v, rxReady := .written true } }))
    ∧ (c = .ctr → step s = .next { t with ctr := (t.ctr + 1) % 2 ^ t.cfg.ctrW })
    ∧ (c = .tick → step s = .next { t with tickPending := true })
    ∧ (∀ b, c = .line b → step s = .next { t with line := { t.line with rx := b } })

/-- The engines run exactly where they are released, not held in reset, and clocked; elsewhere, and under a handler that
freezes them, none of their steps is enabled (R277, R279, R280, R331). The model's own: an engine whose clock selection
is unwritten counts as having no claim (log 23); a choice whose step is not enabled leaves the state (log 2). -/
def Obligations.EnginesHeld : Prop :=
  ∀ s,
    (uartRunning s = true ↔ s.ueng.live = true ∧ s.ueng.swrst = .written false
      ∧ (s.cfg.sleepGates = false ∨ (∃ c, s.ueng.clksel = .written c ∧ 0 < claimCount s.claims c)
          ∨ s.cpu.asleep = false))
    ∧ (i2cRunning s = true ↔ s.ieng.live = true ∧ s.ieng.swrst = .written false
      ∧ (s.cfg.sleepGates = false ∨ (∃ c, s.ieng.clksel = .written c ∧ 0 < claimCount s.claims c)
          ∨ s.cpu.asleep = false))
    ∧ (∀ t c, Moves c s t →
        ((uartRunning t = false ∨ ¬ EnginesFree t) → (c = .uLoad ∨ c = .uShiftOut ∨ ∃ v, c = .uReceive v) →
          step s = .next t)
        ∧ ((i2cRunning t = false ∨ ¬ EnginesFree t) →
          (c ∈ [Choice.iStart, .iLoad, .iStopBegin, .iStopEnd, .iStopIdle, .iStartBusy]
            ∨ (∃ b, c = .iAddress b ∨ c = .iByteOut b) ∨ ∃ v, c = .iByteIn v) → step s = .next t))

/-- The I2C engine's START, ADDRESS with the slave's answer, STOP_BEGIN, STOP_END, STOP_IDLE and START_BUSY, where it
runs (R238, R282 to R284, R288, R291, R292). Two things the fault clauses say are the model's choice: the position
recorded for an environment agent, to which the spec gives none, is the constant `Position.env` (log 26), and a faulting
step keeps only the effects listed before the fault, here none (log 21). A choice whose step is not enabled leaves the
state (log 2). -/
def Obligations.I2cBusConditions : Prop :=
  ∀ s t c, Moves c s t → i2cRunning t = true → EnginesFree t → ¬ Faulted .envI t →
    let e := t.ieng.estate
    let fault := fun r => Host.Outcome.next (φ := Fault) (ρ := Refusal)
      { t with fault := t.fault ++ [⟨r, .envI, .env⟩] }
    (∀ a d, c = .iStart → t.ieng.startReq = .written true → e = .written .idle ∨ e = .written .hold →
      t.ieng.sa = .written a → t.ieng.dirTx = .written d →
      step s = .next { t with trace := t.trace ++ [.i2cStart a (!d)],
                              ieng := { t.ieng with busBusy := .written true, estate := .written .addr },
                              i2c := { t.i2c with phase := .startSent } })
    ∧ (c = .iStart → (t.ieng.startReq ≠ .written true ∨ (e ≠ .written .idle ∧ e ≠ .written .hold)) → step s = .next t)
    ∧ (c = .iAddress true → e = .written .addr → t.ieng.dirTx = .written true →
        step s = .next { t with trace := t.trace ++ [.i2cAddrAck],
                                ieng := { t.ieng with startReq := .written false, estate := .written .tx,
                                                      txReady := .written true },
                                i2c := { t.i2c with phase := .txByte } })
    ∧ (c = .iAddress true → e = .written .addr → t.ieng.dirTx = .written false →
        step s = .next { t with trace := t.trace ++ [.i2cAddrAck],
                                ieng := { t.ieng with startReq := .written false, estate := .written .rx },
                                i2c := { t.i2c with phase := .rxByte } })
    ∧ (∀ d, c = .iAddress false → e = .written .addr → t.ieng.dirTx = .written d →
        step s = .next { t with trace := t.trace ++ [.i2cAddrNack],
                                ieng := { t.ieng with startReq := .written false, nack := .written true,
                                                      estate := .written .hold } })
    ∧ (∀ b, c = .iAddress b → e ≠ .written .addr → step s = .next t)
    ∧ (c = .iStopBegin →
        step s = .next (if t.ieng.stopReq = .written true
            ∧ ((e = .written .tx ∧ t.ieng.txregFull = .written false ∧ t.ieng.shifterFull = .written false)
              ∨ e = .written .hold ∨ (e = .written .rxlast ∧ t.ieng.rxReady = .written false))
          then { t with trace := t.trace ++ [.i2cStop],
                        ieng := { t.ieng with stopReq := .written false, estate := .written .stopping },
                        i2c := { t.i2c with phase := .stopSent } }
          else t))
    ∧ (c = .iStopEnd →
        step s = .next (if e = .written .stopping
          then { t with ieng := { t.ieng with busBusy := .written false, estate := .written .idle },
                        i2c := { t.i2c with phase := .idle } }
          else t))
    ∧ (c = .iStopIdle → e = .written .idle → t.ieng.stopReq = .written true → t.ieng.startReq = .written false →
        (t.cfg.stopInIdle = .fault → step s = fault .i2cStopInIdle)
        ∧ (t.cfg.stopInIdle = .ignore → step s = .next { t with ieng := { t.ieng with stopReq := .written false } }))
    ∧ (c = .iStopIdle → (e ≠ .written .idle ∨ t.ieng.stopReq ≠ .written true ∨ t.ieng.startReq ≠ .written false) →
        step s = .next t)
    ∧ (c = .iStartBusy → t.ieng.startReq = .written true →
        e = .written .tx ∨ e = .written .rx ∨ e = .written .rxlast → step s = fault .i2cStartWhileBusy)
    ∧ (c = .iStartBusy → (t.ieng.startReq ≠ .written true
        ∨ (e ≠ .written .tx ∧ e ≠ .written .rx ∧ e ≠ .written .rxlast)) → step s = .next t)

/-- The I2C engine's LOAD, BYTE_OUT with the slave's answer and its fault, and BYTE_IN with the acknowledgment a
requested STOP decides, where it runs; none of them where its own condition fails, so no byte is clocked in while one
waits to be read (R285 to R287, R289, R290). Two things the clause of the NACK'd byte says are the model's choice: the
recorded position is the constant `Position.env` (log 26), and the faulting step keeps its event and the emptied shifter
(log 21). A choice whose step is not enabled leaves the state (log 2). -/
def Obligations.I2cBusData : Prop :=
  ∀ s t c, Moves c s t → i2cRunning t = true → EnginesFree t → ¬ Faulted .envI t →
    let e := t.ieng.estate
    (∀ v, c = .iLoad → e = .written .tx → t.ieng.txregFull = .written true → t.ieng.shifterFull = .written false →
      t.ieng.txreg = .written v → step s = .next { t with ieng := { t.ieng with
        shifter := .written v, shifterFull := .written true, txregFull := .written false, txReady := .written true } })
    ∧ (c = .iLoad → (e ≠ .written .tx ∨ t.ieng.txregFull ≠ .written true ∨ t.ieng.shifterFull ≠ .written false) →
        step s = .next t)
    ∧ (∀ v, c = .iByteOut true → e = .written .tx → t.ieng.shifterFull = .written true →
        t.ieng.shifter = .written v → step s = .next { t with
          trace := t.trace ++ [.i2cByteOut v true], ieng := { t.ieng with shifterFull := .written false } })
    ∧ (∀ v, c = .iByteOut false → e = .written .tx → t.ieng.shifterFull = .written true →
        t.ieng.shifter = .written v → step s = .next { t with
          trace := t.trace ++ [.i2cByteOut v false], ieng := { t.ieng with shifterFull := .written false },
          fault := t.fault ++ [⟨.i2cDataNack, .envI, .env⟩] })
    ∧ (∀ b, c = .iByteOut b → (e ≠ .written .tx ∨ t.ieng.shifterFull ≠ .written true) → step s = .next t)
    ∧ (∀ v stop, c = .iByteIn v → e = .written .rx → t.ieng.rxReady = .written false →
        t.ieng.stopReq = .written stop → step s = .next { t with
          trace := t.trace ++ [.i2cByteIn v (!stop)],
          ieng := { t.ieng with rxbuf := .written v, rxReady := .written true,
                                estate := .written (if stop then .rxlast else .rx) } })
    ∧ (∀ v, c = .iByteIn v → (e ≠ .written .rx ∨ t.ieng.rxReady ≠ .written false) → step s = .next t)

/-! ### Who writes what, over every step -/

/-- The sleep bit is set only by the wait loop and by an exit that restores it, and cleared by no step but an entry, which
saves it; the mask changes only at an entry and an exit, and no foreground micro-step writes it; the context changes only at
an entry, an exit, and line D2 of DISPATCH, which goes on to the next handler and ORs the wake request in; the saved sleep
is written only at an entry (R51 to R53, R327, R330, R338, R339). The premise is the invariant that ContextInvariant says
every step keeps: the CPU is awake inside the interrupt context. That W3 sets the sleep bit in both variants of WAIT is the
model's choice (log 30). -/
def Obligations.SleepMaskAndContextWriters : Prop :=
  ∀ s t c u, ContextInv s → Moves c s u → step s = .next t →
    (t.cpu.asleep = true → s.cpu.asleep = false →
      (c = .fg ∧ (s.fg.label = .w3 ∨ (s.fg.label = .w1 ∧ s.cfg.waitAtomic = true)))
      ∨ (c = .irq ∧ s.irq.label ∈ [IrqLabel.d3, .k2] ∧ s.cpu.saved = .written true ∧ t.cpu.ctx = .fg))
    ∧ (t.cpu.asleep = false → s.cpu.asleep = true →
        ∃ v, c = .enter v ∧ acceptable s v = true ∧ t.cpu.saved = .written true)
    ∧ (t.cpu.gie ≠ s.cpu.gie →
        (∃ v, c = .enter v ∧ t.cpu.gie = false) ∨ (c = .irq ∧ s.irq.label ∈ [IrqLabel.d3, .k2] ∧ t.cpu.gie = true))
    ∧ (t.cpu.ctx = .fg → s.cpu.ctx ≠ .fg → c = .irq ∧ s.irq.label ∈ [IrqLabel.d3, .k2])
    ∧ (t.cpu.ctx ≠ .fg → s.cpu.ctx = .fg → ∃ v, c = .enter v ∧ acceptable s v = true)
    ∧ (t.cpu.ctx ≠ s.cpu.ctx →
        (∃ v, c = .enter v ∧ t.cpu.ctx = .irq v 0 false)
        ∨ (c = .irq ∧ s.irq.label ∈ [IrqLabel.d3, .k2] ∧ t.cpu.ctx = .fg)
        ∨ (∃ v j w, c = .irq ∧ s.irq.label = .d2 ∧ s.cpu.ctx = .irq v j w
            ∧ t.cpu.ctx = .irq v (j + 1) (w || s.irq.wh)))
    ∧ (t.cpu.saved ≠ s.cpu.saved → ∃ v, c = .enter v ∧ t.cpu.saved = .written s.cpu.asleep)

/-- The session rules: no step but the foreground's raises a remaining count, a completion flag rises only in a handler that
finds or brings the count to 0, and the wait and its timeout touch neither; memory is written only by the I2C receive
handler, at its line Q4, one admitted byte at the session's cursor, and only while the count is above 0 (R57, R138,
R235). -/
def Obligations.SessionAndMemoryWriters : Prop :=
  ∀ s t c u, SessionInv s → Memory.wf s.mem = true → Moves c s u → step s = .next t →
    (t.mem = s.mem
      ∨ (c = .irq ∧ irqInstr u = some .i2cHandleRxIrq ∧ s.irq.label = .q4 ∧ s.admitted s.i2c.cursor = true
        ∧ (InHandler .i2cRx s → 0 < s.i2c.count)
        ∧ ∀ a, memGet t.mem a = if a = s.i2c.cursor then s.irq.r else memGet s.mem a))
    ∧ (c ≠ .fg → t.uart.txCount ≤ s.uart.txCount ∧ t.i2c.count ≤ s.i2c.count)
    ∧ (t.uart.txDone = true → s.uart.txDone = false →
        c = .irq ∧ irqInstr u = some .uartHandleTxIrq ∧ s.irq.label = .t5
        ∧ (InHandler .uartTx s → t.uart.txCount = 0))
    ∧ (t.i2c.done = true → s.i2c.done = false → c = .irq ∧
        ((irqInstr u = some .i2cHandleTxIrq ∧ s.irq.label = .t6 ∧ (InHandler .i2cTx s → t.i2c.count = 0))
          ∨ (irqInstr u = some .i2cHandleRxIrq ∧ s.irq.label = .q8 ∧ t.i2c.count = 0)))
    ∧ (c = .fg → s.fg.label ∈ [Label.w0, .w1, .w2, .w3, .w4, .w5] →
        t.uart = s.uart ∧ t.i2c = s.i2c)

/-- The lines, the counter, the tick, the guard and the status flags. The transmit line is driven only by SWU_PUTC, the
receive line changes only by ENV.LINE, the counter only by ENV.CTR, the pending tick rises only by ENV.TICK and falls only
in TICK_ISR, and the guard changes only in TG_ARM, TG_TICK and TG_DISARM. A framing error rises only at a low stop sample
of SWU_GETC and falls only by SWU_STATUS_CLEAR; the receive-available flags change only in the operations of R27 and R195 (R26, R27, R29, R54 to R56, R158, R195, R301). -/
def Obligations.FlagAndLineWriters : Prop :=
  ∀ s t c u, Moves c s u → step s = .next t →
    (t.swu.framingError ≠ s.swu.framingError → c = .fg ∧
      ((fgInstr u = .ok .swuGetc ∧ s.fg.label = .l9 ∧ s.line.rx = false ∧ t.swu.framingError = true)
        ∨ (fgInstr u = .ok .swuStatusClear ∧ t.swu.framingError = false)))
    ∧ (t.swu.rxAvailable ≠ s.swu.rxAvailable → c = .fg ∧
      ((fgInstr u = .ok .swuGetc ∧ s.fg.label = .l10 ∧ t.swu.rxAvailable = true)
        ∨ (fgInstr u = .ok .swuStatusClear ∧ t.swu.rxAvailable = false)))
    ∧ (t.uart.framingError = true → s.uart.framingError = true)
    ∧ (t.uart.rxAvailable ≠ s.uart.rxAvailable → c = .fg ∧
      ((∃ tmo, fgInstr u = .ok (.uartGetc tmo) ∧ s.fg.label ∈ [Label.l1, .l3])
        ∨ fgInstr u = .ok .uartStatusClear))
    ∧ (t.line.tx ≠ s.line.tx → c = .fg ∧ ∃ b, fgInstr u = .ok (.swuPutc b) ∧ s.fg.label ∈ [Label.l1, .l4, .l8])
    ∧ (t.line.rx ≠ s.line.rx → c = .line t.line.rx)
    ∧ (t.ctr ≠ s.ctr → c = .ctr ∧ t.ctr = (s.ctr + 1) % 2 ^ s.cfg.ctrW)
    ∧ (t.tickPending ≠ s.tickPending →
        (c = .tick ∧ t.tickPending = true) ∨ (c = .irq ∧ irqInstr u = some .tickIsr ∧ s.irq.label = .k0))
    ∧ (t.tg ≠ s.tg →
        (c = .fg ∧ s.fg.label ∈ [Label.w0, .w5]) ∨ (c = .irq ∧ irqInstr u = some .tickIsr ∧ s.irq.label = .k1))

/-- Claims are paired over every I2C transfer, whatever interleaves: under COUNTER, every step of any agent, but the
foreground's own steps of UART_INIT and the four clock operations, keeps each clock's count less what the transfer in
progress holds of it, so a transfer that returns leaves the count of before (R226, R381). -/
def Obligations.TransfersPairTheirClaims : Prop :=
  ∀ s t c u, Moves c s u → step s = .next t → s.cfg.claimKind = .counter →
    (c = .fg → ∀ i, fgInstr s = .ok i → i ∉ [Instr.uartInit, .uartEnable, .uartDisable, .i2cEnable, .i2cDisable]) →
    ∀ d, claimCount t.claims d + transferHold s d = claimCount s.claims d + transferHold t d

/-- What no step takes back: the parameters, the program and the admitted set never change; faults and events are only
added at the end; the retry count and the position in the list never go down; a released engine stays
released, and an enable bit stays set (R22, R34, R45, R57 to R59, R93). -/
def Obligations.NothingIsTakenBack : Prop :=
  ∀ s t, step s = .next t →
    t.cfg = s.cfg ∧ t.fg.prog = s.fg.prog ∧ t.adm = s.adm
    ∧ s.fault <+: t.fault ∧ s.trace <+: t.trace
    ∧ s.i2c.retries ≤ t.i2c.retries ∧ s.fg.k ≤ t.fg.k
    ∧ (s.ueng.live = true → t.ueng.live = true) ∧ (s.ieng.live = true → t.ieng.live = true)
    ∧ (s.ueng.txIe = .written true → t.ueng.txIe = .written true)
    ∧ (s.ueng.rxIe = .written true → t.ueng.rxIe = .written true)
    ∧ (s.ieng.txIe = .written true → t.ieng.txIe = .written true)
    ∧ (s.ieng.rxIe = .written true → t.ieng.rxIe = .written true)
    ∧ (s.ieng.nackIe = .written true → t.ieng.nackIe = .written true)

/-! ### Frames -/

/-- What a foreground operation leaves, at every label: no memory, no CPU state but the sleep bit, no interrupt position, no
counter and no pending tick; and by kind, the drivers and engines that are not its own. -/
def Obligations.ForegroundFrames : Prop :=
  ∀ i s t, issuer i = .fg → exec i s = .next t →
    t.mem = s.mem ∧ t.irq = s.irq ∧ t.cpu = { s.cpu with asleep := t.cpu.asleep } ∧ t.ctr = s.ctr
    ∧ t.tickPending = s.tickPending ∧ t.line.rx = s.line.rx ∧ t.cfg = s.cfg ∧ t.adm = s.adm
    ∧ t.fg.prog = s.fg.prog
    ∧ (i ∈ [Instr.swuStatusRead, .swuStatusClear, .uartStatusRead, .uartStatusClear] →
        t.uart = { s.uart with framingError := t.uart.framingError, rxAvailable := t.uart.rxAvailable }
        ∧ t.swu = { s.swu with framingError := t.swu.framingError, rxAvailable := t.swu.rxAvailable }
        ∧ t.ueng = s.ueng ∧ t.ieng = s.ieng ∧ t.i2c = s.i2c ∧ t.claims = s.claims ∧ t.tg = s.tg ∧ t.line = s.line
        ∧ t.cpu = s.cpu ∧ t.trace = s.trace ∧ t.fault = s.fault ∧ t.refused = s.refused)
    ∧ ((i = .swuGetc ∨ ∃ b, i = .swuPutc b) →
        t.uart = s.uart ∧ t.ueng = s.ueng ∧ t.i2c = s.i2c ∧ t.ieng = s.ieng ∧ t.claims = s.claims ∧ t.tg = s.tg
        ∧ t.cpu = s.cpu ∧ t.refused = s.refused ∧ (i = .swuGetc → t.line = s.line)
        ∧ (i ≠ .swuGetc → t.fg.ret = s.fg.ret ∧ t.swu.framingError = s.swu.framingError
            ∧ t.swu.rxAvailable = s.swu.rxAvailable))
    ∧ (i ∈ [Instr.uartEnable, .uartDisable, .i2cEnable, .i2cDisable] →
        t.swu = s.swu ∧ t.uart = s.uart ∧ t.ueng = s.ueng ∧ t.i2c = s.i2c ∧ t.ieng = s.ieng ∧ t.tg = s.tg
        ∧ t.line = s.line ∧ t.cpu = s.cpu ∧ t.trace = s.trace ∧ t.refused = s.refused ∧ t.fg.ret = s.fg.ret)
    ∧ (i = .uartInit ∨ needsUart i = true →
        t.swu = s.swu ∧ t.i2c = s.i2c ∧ t.ieng = s.ieng ∧ t.line = s.line ∧ t.trace = s.trace
        ∧ (i = .uartInit → t.uart = s.uart ∧ t.tg = s.tg ∧ t.cpu = s.cpu ∧ t.fg.ret = s.fg.ret)
        ∧ (i ≠ .uartInit → t.claims = s.claims ∧ t.uart.rxByte = s.uart.rxByte
            ∧ t.uart.framingError = s.uart.framingError
            ∧ t.ueng = { s.ueng with txbuf := t.ueng.txbuf, txreg := t.ueng.txreg, txregFull := t.ueng.txregFull,
                                     txReady := t.ueng.txReady }))
    ∧ (i = .i2cInit ∨ (i2cOperands i).isSome = true →
        t.swu = s.swu ∧ t.uart = s.uart ∧ t.ueng = s.ueng ∧ t.line = s.line ∧ t.trace = s.trace
        ∧ t.fg.ret = s.fg.ret
        ∧ (i = .i2cInit → t.claims = s.claims ∧ t.tg = s.tg ∧ t.cpu = s.cpu
            ∧ t.i2c = { s.i2c with phase := t.i2c.phase })
        ∧ (i ≠ .i2cInit → t.i2c.phase = s.i2c.phase ∧ t.i2c.retries = s.i2c.retries
            ∧ t.ieng = { s.ieng with dirTx := t.ieng.dirTx, sa := t.ieng.sa, startReq := t.ieng.startReq,
                                     stopReq := t.ieng.stopReq }))

/-- What an operation of the interrupt context leaves, at every label: the foreground, the software UART, the lines, the
claims, the counter, the program and the trace; a handler leaves the CPU, the guard and the other driver with its engine;
only the I2C receive handler stores, and only at its line Q4, at the cursor. -/
def Obligations.InterruptFrames : Prop :=
  ∀ i s t, issuer i = .irq → exec i s = .next t →
    t.fg = s.fg ∧ t.swu = s.swu ∧ t.line = s.line ∧ t.claims = s.claims ∧ t.ctr = s.ctr ∧ t.trace = s.trace
    ∧ t.cfg = s.cfg ∧ t.adm = s.adm ∧ t.refused = s.refused
    ∧ (i = .uartHandleTxIrq ∨ i = .uartHandleRxIrq →
        t.i2c = s.i2c ∧ t.ieng = s.ieng ∧ t.cpu = s.cpu ∧ t.tg = s.tg ∧ t.tickPending = s.tickPending
        ∧ t.mem = s.mem ∧ t.uart.framingError = s.uart.framingError ∧ t.uart.rxAvailable = s.uart.rxAvailable
        ∧ (i = .uartHandleTxIrq → t.uart.rxByte = s.uart.rxByte ∧ t.uart.rxCount = s.uart.rxCount)
        ∧ (i = .uartHandleRxIrq → t.uart.txCount = s.uart.txCount ∧ t.uart.txCursor = s.uart.txCursor
            ∧ t.uart.txDone = s.uart.txDone))
    ∧ (i = .i2cHandleTxIrq ∨ i = .i2cHandleRxIrq →
        t.uart = s.uart ∧ t.ueng = s.ueng ∧ t.cpu = s.cpu ∧ t.tg = s.tg ∧ t.tickPending = s.tickPending
        ∧ t.i2c.dir = s.i2c.dir ∧ t.i2c.phase = s.i2c.phase
        ∧ (i = .i2cHandleTxIrq → t.mem = s.mem)
        ∧ (i = .i2cHandleRxIrq → s.irq.label ≠ .q4 → t.mem = s.mem)
        ∧ (i = .i2cHandleRxIrq → s.irq.label = .q4 → Memory.wf s.mem = true →
            ∀ a, a ≠ s.i2c.cursor → memGet t.mem a = memGet s.mem a))
    ∧ (i = .tickIsr ∨ (∃ v, i = .dispatch v) →
        t.uart = s.uart ∧ t.ueng = s.ueng ∧ t.i2c = s.i2c ∧ t.ieng = s.ieng ∧ t.mem = s.mem
        ∧ (i ≠ .tickIsr → t.tg = s.tg ∧ t.tickPending = s.tickPending))

/-! ### Invariants that every step keeps -/

/-- Every invariant below holds at the launch of an allowed configuration, whatever the program, with a launch memory in
canonical form inside the address space and a counter value of its width; and at the reset state. The reset state's
parameters and launch are the model's own (logs 3, 5 to 8). -/
def Obligations.InvariantsHoldAtLaunch : Prop :=
  (∀ c g, c.allowed = true → Memory.wf g.mem = true → (∀ x ∈ g.mem, x.1 < 2 ^ c.addrW) → g.ctr < 2 ^ c.ctrW →
    let s := State.launch c g
    MemInv s ∧ ContextInv s ∧ RegisterInv s ∧ BitIndexInv s ∧ UartEngineInv s ∧ I2cEngineInv s ∧ SessionInv s
    ∧ ReadsInv s)
  ∧ MemInv State.reset ∧ ContextInv State.reset ∧ RegisterInv State.reset ∧ BitIndexInv State.reset
  ∧ UartEngineInv State.reset ∧ I2cEngineInv State.reset ∧ SessionInv State.reset ∧ ReadsInv State.reset

/-- Every step keeps the memory in canonical form and inside the address space, and changes no byte but an admitted one; an
address is admitted exactly where it is in the address space and in ADM, a list of regions (R80; log 7). -/
def Obligations.MemoryInvariant : Prop :=
  (∀ s a, State.admitted s a = true ↔ a < 2 ^ s.cfg.addrW ∧ ∃ r ∈ s.adm, r.base ≤ a ∧ a < r.base + r.len)
  ∧ ∀ s t, MemInv s → step s = .next t →
    MemInv t ∧ ∀ a, memGet t.mem a ≠ memGet s.mem a → s.admitted a = true

/-- Every step keeps the interrupt context masked, awake, with its sleep saved, and standing at a line of its vector's body
(R327, R330, R337, R340). -/
def Obligations.ContextInvariant : Prop := ∀ s t, ContextInv s → step s = .next t → ContextInv t

/-- Every step keeps every register within its width and its legal values, a claim under BOOLEAN at 0 or 1, an unexpired
guard counting, and the UART driver's framing error 0 (R13, R50, R61, R126, R197; the form of the claims is log 14's). The
bit index of the software UART stays at most 8 (R28) in the states of ReadsInv, which bounds it line by line and which
NoUnwrittenRead says every step keeps. -/
def Obligations.RegisterInvariant : Prop :=
  ∀ s t, s.cfg.allowed = true → RegisterInv s → step s = .next t →
    RegisterInv t ∧ (ReadsInv s → BitIndexInv s → BitIndexInv t)

/-- Every step keeps the UART engine's flags consistent: transmit-ready only with an empty holding register, full registers
holding bytes, receive-ready only with a byte received (R192, R193, R271 to R276). -/
def Obligations.UartEngineInvariant : Prop := ∀ s t, UartEngineInv s → step s = .next t → UartEngineInv t

/-- Every step keeps the I2C engine's flags consistent, the bus busy exactly outside IDLE, and the protocol phase the one
its state stands for (R229, R238, R280 to R292). -/
def Obligations.I2cEngineInvariant : Prop := ∀ s t, I2cEngineInv s → step s = .next t → I2cEngineInv t

/-- Every step keeps what the handlers know of their session, and a UART transmit handler that feeds never overwrites the
holding register (R138, R192, R231). -/
def Obligations.SessionInvariant : Prop :=
  ∀ s t, SessionInv s → step s = .next t →
    SessionInv t
      ∧ (UartEngineInv s → InHandler .uartTx s →
          (∀ f ∈ t.fault, f.agent = .irq → f.reason = .txbufOverwrite → f ∈ s.fault))

/-- No micro-step of the block ever reads an unwritten element: the invariant that says so is kept by every step, so no run
from a launch records UNWRITTEN_READ (R65, R154, R157, R192, R193). -/
def Obligations.NoUnwrittenRead : Prop := ∀ s t, ReadsInv s → step s = .next t → ReadsInv t
end

