-- ==== Sys2Proof/Laws/Encoding.lean ====
section
/-! SUPPORT. The descriptor's field layout read and written (R100). -/

namespace Sys2Proof

/-- Reading the fields that were written gives them back. -/
theorem fieldsOf_packFields (f : Fields) : fieldsOf (packFields f) = f := by
  obtain ⟨op, dir, tp, res1, addr7, res2, byte, ptr, n, tmo⟩ := f
  simp only [fieldsOf, packFields, Fields.mk.injEq]
  refine ⟨?_, ?_, ?_, ?_, ?_, ?_, ?_, ?_, ?_, ?_⟩
  all_goals first
    | (ext i hi
       simp only [BitVec.getElem_extractLsb', BitVec.getLsbD_cast, BitVec.getLsbD_append]
       repeat rw [if_neg (by omega)]
       try rw [if_pos (by omega)]
       rw [← BitVec.getLsbD_eq_getElem]; congr 1; omega)
    | (simp only [BitVec.getLsbD_cast, BitVec.getLsbD_append]; simp)

/-- Writing the fields that were read gives the descriptor back: the layout has no other bit. -/
theorem packFields_fieldsOf (d : Desc) : packFields (fieldsOf d) = d := by
  apply BitVec.eq_of_getLsbD_eq
  intro i hi
  simp only [packFields, fieldsOf, BitVec.getLsbD_cast, BitVec.getLsbD_append, BitVec.getLsbD_extractLsb',
    BitVec.getLsbD_ofBool]
  repeat' split
  all_goals (rw [decide_eq_true (by omega), Bool.true_and]; congr 1; omega)

end Sys2Proof
end

