-- ==== Sys2Proof/Laws/State.lean ====
section
/-! SUPPORT. What every update of State.lean gives and leaves, one lemma per element: no later proof unfolds an
update. -/

namespace Sys2Proof.Machine.State

/-! ### setFg -/

@[simp] theorem setFg_cfg (s : State) (x : Fg) : (s.setFg x).cfg = s.cfg := rfl
@[simp] theorem setFg_fg (s : State) (x : Fg) : (s.setFg x).fg = x := rfl
@[simp] theorem setFg_swu (s : State) (x : Fg) : (s.setFg x).swu = s.swu := rfl
@[simp] theorem setFg_line (s : State) (x : Fg) : (s.setFg x).line = s.line := rfl
@[simp] theorem setFg_uart (s : State) (x : Fg) : (s.setFg x).uart = s.uart := rfl
@[simp] theorem setFg_ueng (s : State) (x : Fg) : (s.setFg x).ueng = s.ueng := rfl
@[simp] theorem setFg_i2c (s : State) (x : Fg) : (s.setFg x).i2c = s.i2c := rfl
@[simp] theorem setFg_ieng (s : State) (x : Fg) : (s.setFg x).ieng = s.ieng := rfl
@[simp] theorem setFg_claims (s : State) (x : Fg) : (s.setFg x).claims = s.claims := rfl
@[simp] theorem setFg_cpu (s : State) (x : Fg) : (s.setFg x).cpu = s.cpu := rfl
@[simp] theorem setFg_irq (s : State) (x : Fg) : (s.setFg x).irq = s.irq := rfl
@[simp] theorem setFg_tickPending (s : State) (x : Fg) : (s.setFg x).tickPending = s.tickPending := rfl
@[simp] theorem setFg_tg (s : State) (x : Fg) : (s.setFg x).tg = s.tg := rfl
@[simp] theorem setFg_ctr (s : State) (x : Fg) : (s.setFg x).ctr = s.ctr := rfl
@[simp] theorem setFg_mem (s : State) (x : Fg) : (s.setFg x).mem = s.mem := rfl
@[simp] theorem setFg_adm (s : State) (x : Fg) : (s.setFg x).adm = s.adm := rfl
@[simp] theorem setFg_fault (s : State) (x : Fg) : (s.setFg x).fault = s.fault := rfl
@[simp] theorem setFg_refused (s : State) (x : Fg) : (s.setFg x).refused = s.refused := rfl
@[simp] theorem setFg_trace (s : State) (x : Fg) : (s.setFg x).trace = s.trace := rfl
@[simp] theorem setFg_sched (s : State) (x : Fg) : (s.setFg x).sched = s.sched := rfl

/-! ### setSwu -/

@[simp] theorem setSwu_cfg (s : State) (x : Swu) : (s.setSwu x).cfg = s.cfg := rfl
@[simp] theorem setSwu_fg (s : State) (x : Swu) : (s.setSwu x).fg = s.fg := rfl
@[simp] theorem setSwu_swu (s : State) (x : Swu) : (s.setSwu x).swu = x := rfl
@[simp] theorem setSwu_line (s : State) (x : Swu) : (s.setSwu x).line = s.line := rfl
@[simp] theorem setSwu_uart (s : State) (x : Swu) : (s.setSwu x).uart = s.uart := rfl
@[simp] theorem setSwu_ueng (s : State) (x : Swu) : (s.setSwu x).ueng = s.ueng := rfl
@[simp] theorem setSwu_i2c (s : State) (x : Swu) : (s.setSwu x).i2c = s.i2c := rfl
@[simp] theorem setSwu_ieng (s : State) (x : Swu) : (s.setSwu x).ieng = s.ieng := rfl
@[simp] theorem setSwu_claims (s : State) (x : Swu) : (s.setSwu x).claims = s.claims := rfl
@[simp] theorem setSwu_cpu (s : State) (x : Swu) : (s.setSwu x).cpu = s.cpu := rfl
@[simp] theorem setSwu_irq (s : State) (x : Swu) : (s.setSwu x).irq = s.irq := rfl
@[simp] theorem setSwu_tickPending (s : State) (x : Swu) : (s.setSwu x).tickPending = s.tickPending := rfl
@[simp] theorem setSwu_tg (s : State) (x : Swu) : (s.setSwu x).tg = s.tg := rfl
@[simp] theorem setSwu_ctr (s : State) (x : Swu) : (s.setSwu x).ctr = s.ctr := rfl
@[simp] theorem setSwu_mem (s : State) (x : Swu) : (s.setSwu x).mem = s.mem := rfl
@[simp] theorem setSwu_adm (s : State) (x : Swu) : (s.setSwu x).adm = s.adm := rfl
@[simp] theorem setSwu_fault (s : State) (x : Swu) : (s.setSwu x).fault = s.fault := rfl
@[simp] theorem setSwu_refused (s : State) (x : Swu) : (s.setSwu x).refused = s.refused := rfl
@[simp] theorem setSwu_trace (s : State) (x : Swu) : (s.setSwu x).trace = s.trace := rfl
@[simp] theorem setSwu_sched (s : State) (x : Swu) : (s.setSwu x).sched = s.sched := rfl

/-! ### setLine -/

@[simp] theorem setLine_cfg (s : State) (x : Line) : (s.setLine x).cfg = s.cfg := rfl
@[simp] theorem setLine_fg (s : State) (x : Line) : (s.setLine x).fg = s.fg := rfl
@[simp] theorem setLine_swu (s : State) (x : Line) : (s.setLine x).swu = s.swu := rfl
@[simp] theorem setLine_line (s : State) (x : Line) : (s.setLine x).line = x := rfl
@[simp] theorem setLine_uart (s : State) (x : Line) : (s.setLine x).uart = s.uart := rfl
@[simp] theorem setLine_ueng (s : State) (x : Line) : (s.setLine x).ueng = s.ueng := rfl
@[simp] theorem setLine_i2c (s : State) (x : Line) : (s.setLine x).i2c = s.i2c := rfl
@[simp] theorem setLine_ieng (s : State) (x : Line) : (s.setLine x).ieng = s.ieng := rfl
@[simp] theorem setLine_claims (s : State) (x : Line) : (s.setLine x).claims = s.claims := rfl
@[simp] theorem setLine_cpu (s : State) (x : Line) : (s.setLine x).cpu = s.cpu := rfl
@[simp] theorem setLine_irq (s : State) (x : Line) : (s.setLine x).irq = s.irq := rfl
@[simp] theorem setLine_tickPending (s : State) (x : Line) : (s.setLine x).tickPending = s.tickPending := rfl
@[simp] theorem setLine_tg (s : State) (x : Line) : (s.setLine x).tg = s.tg := rfl
@[simp] theorem setLine_ctr (s : State) (x : Line) : (s.setLine x).ctr = s.ctr := rfl
@[simp] theorem setLine_mem (s : State) (x : Line) : (s.setLine x).mem = s.mem := rfl
@[simp] theorem setLine_adm (s : State) (x : Line) : (s.setLine x).adm = s.adm := rfl
@[simp] theorem setLine_fault (s : State) (x : Line) : (s.setLine x).fault = s.fault := rfl
@[simp] theorem setLine_refused (s : State) (x : Line) : (s.setLine x).refused = s.refused := rfl
@[simp] theorem setLine_trace (s : State) (x : Line) : (s.setLine x).trace = s.trace := rfl
@[simp] theorem setLine_sched (s : State) (x : Line) : (s.setLine x).sched = s.sched := rfl

/-! ### setUart -/

@[simp] theorem setUart_cfg (s : State) (x : Uart) : (s.setUart x).cfg = s.cfg := rfl
@[simp] theorem setUart_fg (s : State) (x : Uart) : (s.setUart x).fg = s.fg := rfl
@[simp] theorem setUart_swu (s : State) (x : Uart) : (s.setUart x).swu = s.swu := rfl
@[simp] theorem setUart_line (s : State) (x : Uart) : (s.setUart x).line = s.line := rfl
@[simp] theorem setUart_uart (s : State) (x : Uart) : (s.setUart x).uart = x := rfl
@[simp] theorem setUart_ueng (s : State) (x : Uart) : (s.setUart x).ueng = s.ueng := rfl
@[simp] theorem setUart_i2c (s : State) (x : Uart) : (s.setUart x).i2c = s.i2c := rfl
@[simp] theorem setUart_ieng (s : State) (x : Uart) : (s.setUart x).ieng = s.ieng := rfl
@[simp] theorem setUart_claims (s : State) (x : Uart) : (s.setUart x).claims = s.claims := rfl
@[simp] theorem setUart_cpu (s : State) (x : Uart) : (s.setUart x).cpu = s.cpu := rfl
@[simp] theorem setUart_irq (s : State) (x : Uart) : (s.setUart x).irq = s.irq := rfl
@[simp] theorem setUart_tickPending (s : State) (x : Uart) : (s.setUart x).tickPending = s.tickPending := rfl
@[simp] theorem setUart_tg (s : State) (x : Uart) : (s.setUart x).tg = s.tg := rfl
@[simp] theorem setUart_ctr (s : State) (x : Uart) : (s.setUart x).ctr = s.ctr := rfl
@[simp] theorem setUart_mem (s : State) (x : Uart) : (s.setUart x).mem = s.mem := rfl
@[simp] theorem setUart_adm (s : State) (x : Uart) : (s.setUart x).adm = s.adm := rfl
@[simp] theorem setUart_fault (s : State) (x : Uart) : (s.setUart x).fault = s.fault := rfl
@[simp] theorem setUart_refused (s : State) (x : Uart) : (s.setUart x).refused = s.refused := rfl
@[simp] theorem setUart_trace (s : State) (x : Uart) : (s.setUart x).trace = s.trace := rfl
@[simp] theorem setUart_sched (s : State) (x : Uart) : (s.setUart x).sched = s.sched := rfl

/-! ### setUeng -/

@[simp] theorem setUeng_cfg (s : State) (x : UartEngine) : (s.setUeng x).cfg = s.cfg := rfl
@[simp] theorem setUeng_fg (s : State) (x : UartEngine) : (s.setUeng x).fg = s.fg := rfl
@[simp] theorem setUeng_swu (s : State) (x : UartEngine) : (s.setUeng x).swu = s.swu := rfl
@[simp] theorem setUeng_line (s : State) (x : UartEngine) : (s.setUeng x).line = s.line := rfl
@[simp] theorem setUeng_uart (s : State) (x : UartEngine) : (s.setUeng x).uart = s.uart := rfl
@[simp] theorem setUeng_ueng (s : State) (x : UartEngine) : (s.setUeng x).ueng = x := rfl
@[simp] theorem setUeng_i2c (s : State) (x : UartEngine) : (s.setUeng x).i2c = s.i2c := rfl
@[simp] theorem setUeng_ieng (s : State) (x : UartEngine) : (s.setUeng x).ieng = s.ieng := rfl
@[simp] theorem setUeng_claims (s : State) (x : UartEngine) : (s.setUeng x).claims = s.claims := rfl
@[simp] theorem setUeng_cpu (s : State) (x : UartEngine) : (s.setUeng x).cpu = s.cpu := rfl
@[simp] theorem setUeng_irq (s : State) (x : UartEngine) : (s.setUeng x).irq = s.irq := rfl
@[simp] theorem setUeng_tickPending (s : State) (x : UartEngine) : (s.setUeng x).tickPending = s.tickPending := rfl
@[simp] theorem setUeng_tg (s : State) (x : UartEngine) : (s.setUeng x).tg = s.tg := rfl
@[simp] theorem setUeng_ctr (s : State) (x : UartEngine) : (s.setUeng x).ctr = s.ctr := rfl
@[simp] theorem setUeng_mem (s : State) (x : UartEngine) : (s.setUeng x).mem = s.mem := rfl
@[simp] theorem setUeng_adm (s : State) (x : UartEngine) : (s.setUeng x).adm = s.adm := rfl
@[simp] theorem setUeng_fault (s : State) (x : UartEngine) : (s.setUeng x).fault = s.fault := rfl
@[simp] theorem setUeng_refused (s : State) (x : UartEngine) : (s.setUeng x).refused = s.refused := rfl
@[simp] theorem setUeng_trace (s : State) (x : UartEngine) : (s.setUeng x).trace = s.trace := rfl
@[simp] theorem setUeng_sched (s : State) (x : UartEngine) : (s.setUeng x).sched = s.sched := rfl

/-! ### setI2c -/

@[simp] theorem setI2c_cfg (s : State) (x : I2c) : (s.setI2c x).cfg = s.cfg := rfl
@[simp] theorem setI2c_fg (s : State) (x : I2c) : (s.setI2c x).fg = s.fg := rfl
@[simp] theorem setI2c_swu (s : State) (x : I2c) : (s.setI2c x).swu = s.swu := rfl
@[simp] theorem setI2c_line (s : State) (x : I2c) : (s.setI2c x).line = s.line := rfl
@[simp] theorem setI2c_uart (s : State) (x : I2c) : (s.setI2c x).uart = s.uart := rfl
@[simp] theorem setI2c_ueng (s : State) (x : I2c) : (s.setI2c x).ueng = s.ueng := rfl
@[simp] theorem setI2c_i2c (s : State) (x : I2c) : (s.setI2c x).i2c = x := rfl
@[simp] theorem setI2c_ieng (s : State) (x : I2c) : (s.setI2c x).ieng = s.ieng := rfl
@[simp] theorem setI2c_claims (s : State) (x : I2c) : (s.setI2c x).claims = s.claims := rfl
@[simp] theorem setI2c_cpu (s : State) (x : I2c) : (s.setI2c x).cpu = s.cpu := rfl
@[simp] theorem setI2c_irq (s : State) (x : I2c) : (s.setI2c x).irq = s.irq := rfl
@[simp] theorem setI2c_tickPending (s : State) (x : I2c) : (s.setI2c x).tickPending = s.tickPending := rfl
@[simp] theorem setI2c_tg (s : State) (x : I2c) : (s.setI2c x).tg = s.tg := rfl
@[simp] theorem setI2c_ctr (s : State) (x : I2c) : (s.setI2c x).ctr = s.ctr := rfl
@[simp] theorem setI2c_mem (s : State) (x : I2c) : (s.setI2c x).mem = s.mem := rfl
@[simp] theorem setI2c_adm (s : State) (x : I2c) : (s.setI2c x).adm = s.adm := rfl
@[simp] theorem setI2c_fault (s : State) (x : I2c) : (s.setI2c x).fault = s.fault := rfl
@[simp] theorem setI2c_refused (s : State) (x : I2c) : (s.setI2c x).refused = s.refused := rfl
@[simp] theorem setI2c_trace (s : State) (x : I2c) : (s.setI2c x).trace = s.trace := rfl
@[simp] theorem setI2c_sched (s : State) (x : I2c) : (s.setI2c x).sched = s.sched := rfl

/-! ### setIeng -/

@[simp] theorem setIeng_cfg (s : State) (x : I2cEngine) : (s.setIeng x).cfg = s.cfg := rfl
@[simp] theorem setIeng_fg (s : State) (x : I2cEngine) : (s.setIeng x).fg = s.fg := rfl
@[simp] theorem setIeng_swu (s : State) (x : I2cEngine) : (s.setIeng x).swu = s.swu := rfl
@[simp] theorem setIeng_line (s : State) (x : I2cEngine) : (s.setIeng x).line = s.line := rfl
@[simp] theorem setIeng_uart (s : State) (x : I2cEngine) : (s.setIeng x).uart = s.uart := rfl
@[simp] theorem setIeng_ueng (s : State) (x : I2cEngine) : (s.setIeng x).ueng = s.ueng := rfl
@[simp] theorem setIeng_i2c (s : State) (x : I2cEngine) : (s.setIeng x).i2c = s.i2c := rfl
@[simp] theorem setIeng_ieng (s : State) (x : I2cEngine) : (s.setIeng x).ieng = x := rfl
@[simp] theorem setIeng_claims (s : State) (x : I2cEngine) : (s.setIeng x).claims = s.claims := rfl
@[simp] theorem setIeng_cpu (s : State) (x : I2cEngine) : (s.setIeng x).cpu = s.cpu := rfl
@[simp] theorem setIeng_irq (s : State) (x : I2cEngine) : (s.setIeng x).irq = s.irq := rfl
@[simp] theorem setIeng_tickPending (s : State) (x : I2cEngine) : (s.setIeng x).tickPending = s.tickPending := rfl
@[simp] theorem setIeng_tg (s : State) (x : I2cEngine) : (s.setIeng x).tg = s.tg := rfl
@[simp] theorem setIeng_ctr (s : State) (x : I2cEngine) : (s.setIeng x).ctr = s.ctr := rfl
@[simp] theorem setIeng_mem (s : State) (x : I2cEngine) : (s.setIeng x).mem = s.mem := rfl
@[simp] theorem setIeng_adm (s : State) (x : I2cEngine) : (s.setIeng x).adm = s.adm := rfl
@[simp] theorem setIeng_fault (s : State) (x : I2cEngine) : (s.setIeng x).fault = s.fault := rfl
@[simp] theorem setIeng_refused (s : State) (x : I2cEngine) : (s.setIeng x).refused = s.refused := rfl
@[simp] theorem setIeng_trace (s : State) (x : I2cEngine) : (s.setIeng x).trace = s.trace := rfl
@[simp] theorem setIeng_sched (s : State) (x : I2cEngine) : (s.setIeng x).sched = s.sched := rfl

/-! ### setClaims -/

@[simp] theorem setClaims_cfg (s : State) (x : List Nat) : (s.setClaims x).cfg = s.cfg := rfl
@[simp] theorem setClaims_fg (s : State) (x : List Nat) : (s.setClaims x).fg = s.fg := rfl
@[simp] theorem setClaims_swu (s : State) (x : List Nat) : (s.setClaims x).swu = s.swu := rfl
@[simp] theorem setClaims_line (s : State) (x : List Nat) : (s.setClaims x).line = s.line := rfl
@[simp] theorem setClaims_uart (s : State) (x : List Nat) : (s.setClaims x).uart = s.uart := rfl
@[simp] theorem setClaims_ueng (s : State) (x : List Nat) : (s.setClaims x).ueng = s.ueng := rfl
@[simp] theorem setClaims_i2c (s : State) (x : List Nat) : (s.setClaims x).i2c = s.i2c := rfl
@[simp] theorem setClaims_ieng (s : State) (x : List Nat) : (s.setClaims x).ieng = s.ieng := rfl
@[simp] theorem setClaims_claims (s : State) (x : List Nat) : (s.setClaims x).claims = x := rfl
@[simp] theorem setClaims_cpu (s : State) (x : List Nat) : (s.setClaims x).cpu = s.cpu := rfl
@[simp] theorem setClaims_irq (s : State) (x : List Nat) : (s.setClaims x).irq = s.irq := rfl
@[simp] theorem setClaims_tickPending (s : State) (x : List Nat) : (s.setClaims x).tickPending = s.tickPending := rfl
@[simp] theorem setClaims_tg (s : State) (x : List Nat) : (s.setClaims x).tg = s.tg := rfl
@[simp] theorem setClaims_ctr (s : State) (x : List Nat) : (s.setClaims x).ctr = s.ctr := rfl
@[simp] theorem setClaims_mem (s : State) (x : List Nat) : (s.setClaims x).mem = s.mem := rfl
@[simp] theorem setClaims_adm (s : State) (x : List Nat) : (s.setClaims x).adm = s.adm := rfl
@[simp] theorem setClaims_fault (s : State) (x : List Nat) : (s.setClaims x).fault = s.fault := rfl
@[simp] theorem setClaims_refused (s : State) (x : List Nat) : (s.setClaims x).refused = s.refused := rfl
@[simp] theorem setClaims_trace (s : State) (x : List Nat) : (s.setClaims x).trace = s.trace := rfl
@[simp] theorem setClaims_sched (s : State) (x : List Nat) : (s.setClaims x).sched = s.sched := rfl

/-! ### setCpu -/

@[simp] theorem setCpu_cfg (s : State) (x : Cpu) : (s.setCpu x).cfg = s.cfg := rfl
@[simp] theorem setCpu_fg (s : State) (x : Cpu) : (s.setCpu x).fg = s.fg := rfl
@[simp] theorem setCpu_swu (s : State) (x : Cpu) : (s.setCpu x).swu = s.swu := rfl
@[simp] theorem setCpu_line (s : State) (x : Cpu) : (s.setCpu x).line = s.line := rfl
@[simp] theorem setCpu_uart (s : State) (x : Cpu) : (s.setCpu x).uart = s.uart := rfl
@[simp] theorem setCpu_ueng (s : State) (x : Cpu) : (s.setCpu x).ueng = s.ueng := rfl
@[simp] theorem setCpu_i2c (s : State) (x : Cpu) : (s.setCpu x).i2c = s.i2c := rfl
@[simp] theorem setCpu_ieng (s : State) (x : Cpu) : (s.setCpu x).ieng = s.ieng := rfl
@[simp] theorem setCpu_claims (s : State) (x : Cpu) : (s.setCpu x).claims = s.claims := rfl
@[simp] theorem setCpu_cpu (s : State) (x : Cpu) : (s.setCpu x).cpu = x := rfl
@[simp] theorem setCpu_irq (s : State) (x : Cpu) : (s.setCpu x).irq = s.irq := rfl
@[simp] theorem setCpu_tickPending (s : State) (x : Cpu) : (s.setCpu x).tickPending = s.tickPending := rfl
@[simp] theorem setCpu_tg (s : State) (x : Cpu) : (s.setCpu x).tg = s.tg := rfl
@[simp] theorem setCpu_ctr (s : State) (x : Cpu) : (s.setCpu x).ctr = s.ctr := rfl
@[simp] theorem setCpu_mem (s : State) (x : Cpu) : (s.setCpu x).mem = s.mem := rfl
@[simp] theorem setCpu_adm (s : State) (x : Cpu) : (s.setCpu x).adm = s.adm := rfl
@[simp] theorem setCpu_fault (s : State) (x : Cpu) : (s.setCpu x).fault = s.fault := rfl
@[simp] theorem setCpu_refused (s : State) (x : Cpu) : (s.setCpu x).refused = s.refused := rfl
@[simp] theorem setCpu_trace (s : State) (x : Cpu) : (s.setCpu x).trace = s.trace := rfl
@[simp] theorem setCpu_sched (s : State) (x : Cpu) : (s.setCpu x).sched = s.sched := rfl

/-! ### setIrq -/

@[simp] theorem setIrq_cfg (s : State) (x : IrqPos) : (s.setIrq x).cfg = s.cfg := rfl
@[simp] theorem setIrq_fg (s : State) (x : IrqPos) : (s.setIrq x).fg = s.fg := rfl
@[simp] theorem setIrq_swu (s : State) (x : IrqPos) : (s.setIrq x).swu = s.swu := rfl
@[simp] theorem setIrq_line (s : State) (x : IrqPos) : (s.setIrq x).line = s.line := rfl
@[simp] theorem setIrq_uart (s : State) (x : IrqPos) : (s.setIrq x).uart = s.uart := rfl
@[simp] theorem setIrq_ueng (s : State) (x : IrqPos) : (s.setIrq x).ueng = s.ueng := rfl
@[simp] theorem setIrq_i2c (s : State) (x : IrqPos) : (s.setIrq x).i2c = s.i2c := rfl
@[simp] theorem setIrq_ieng (s : State) (x : IrqPos) : (s.setIrq x).ieng = s.ieng := rfl
@[simp] theorem setIrq_claims (s : State) (x : IrqPos) : (s.setIrq x).claims = s.claims := rfl
@[simp] theorem setIrq_cpu (s : State) (x : IrqPos) : (s.setIrq x).cpu = s.cpu := rfl
@[simp] theorem setIrq_irq (s : State) (x : IrqPos) : (s.setIrq x).irq = x := rfl
@[simp] theorem setIrq_tickPending (s : State) (x : IrqPos) : (s.setIrq x).tickPending = s.tickPending := rfl
@[simp] theorem setIrq_tg (s : State) (x : IrqPos) : (s.setIrq x).tg = s.tg := rfl
@[simp] theorem setIrq_ctr (s : State) (x : IrqPos) : (s.setIrq x).ctr = s.ctr := rfl
@[simp] theorem setIrq_mem (s : State) (x : IrqPos) : (s.setIrq x).mem = s.mem := rfl
@[simp] theorem setIrq_adm (s : State) (x : IrqPos) : (s.setIrq x).adm = s.adm := rfl
@[simp] theorem setIrq_fault (s : State) (x : IrqPos) : (s.setIrq x).fault = s.fault := rfl
@[simp] theorem setIrq_refused (s : State) (x : IrqPos) : (s.setIrq x).refused = s.refused := rfl
@[simp] theorem setIrq_trace (s : State) (x : IrqPos) : (s.setIrq x).trace = s.trace := rfl
@[simp] theorem setIrq_sched (s : State) (x : IrqPos) : (s.setIrq x).sched = s.sched := rfl

/-! ### setTickPending -/

@[simp] theorem setTickPending_cfg (s : State) (x : Bool) : (s.setTickPending x).cfg = s.cfg := rfl
@[simp] theorem setTickPending_fg (s : State) (x : Bool) : (s.setTickPending x).fg = s.fg := rfl
@[simp] theorem setTickPending_swu (s : State) (x : Bool) : (s.setTickPending x).swu = s.swu := rfl
@[simp] theorem setTickPending_line (s : State) (x : Bool) : (s.setTickPending x).line = s.line := rfl
@[simp] theorem setTickPending_uart (s : State) (x : Bool) : (s.setTickPending x).uart = s.uart := rfl
@[simp] theorem setTickPending_ueng (s : State) (x : Bool) : (s.setTickPending x).ueng = s.ueng := rfl
@[simp] theorem setTickPending_i2c (s : State) (x : Bool) : (s.setTickPending x).i2c = s.i2c := rfl
@[simp] theorem setTickPending_ieng (s : State) (x : Bool) : (s.setTickPending x).ieng = s.ieng := rfl
@[simp] theorem setTickPending_claims (s : State) (x : Bool) : (s.setTickPending x).claims = s.claims := rfl
@[simp] theorem setTickPending_cpu (s : State) (x : Bool) : (s.setTickPending x).cpu = s.cpu := rfl
@[simp] theorem setTickPending_irq (s : State) (x : Bool) : (s.setTickPending x).irq = s.irq := rfl
@[simp] theorem setTickPending_tickPending (s : State) (x : Bool) : (s.setTickPending x).tickPending = x := rfl
@[simp] theorem setTickPending_tg (s : State) (x : Bool) : (s.setTickPending x).tg = s.tg := rfl
@[simp] theorem setTickPending_ctr (s : State) (x : Bool) : (s.setTickPending x).ctr = s.ctr := rfl
@[simp] theorem setTickPending_mem (s : State) (x : Bool) : (s.setTickPending x).mem = s.mem := rfl
@[simp] theorem setTickPending_adm (s : State) (x : Bool) : (s.setTickPending x).adm = s.adm := rfl
@[simp] theorem setTickPending_fault (s : State) (x : Bool) : (s.setTickPending x).fault = s.fault := rfl
@[simp] theorem setTickPending_refused (s : State) (x : Bool) : (s.setTickPending x).refused = s.refused := rfl
@[simp] theorem setTickPending_trace (s : State) (x : Bool) : (s.setTickPending x).trace = s.trace := rfl
@[simp] theorem setTickPending_sched (s : State) (x : Bool) : (s.setTickPending x).sched = s.sched := rfl

/-! ### setTg -/

@[simp] theorem setTg_cfg (s : State) (x : Guard) : (s.setTg x).cfg = s.cfg := rfl
@[simp] theorem setTg_fg (s : State) (x : Guard) : (s.setTg x).fg = s.fg := rfl
@[simp] theorem setTg_swu (s : State) (x : Guard) : (s.setTg x).swu = s.swu := rfl
@[simp] theorem setTg_line (s : State) (x : Guard) : (s.setTg x).line = s.line := rfl
@[simp] theorem setTg_uart (s : State) (x : Guard) : (s.setTg x).uart = s.uart := rfl
@[simp] theorem setTg_ueng (s : State) (x : Guard) : (s.setTg x).ueng = s.ueng := rfl
@[simp] theorem setTg_i2c (s : State) (x : Guard) : (s.setTg x).i2c = s.i2c := rfl
@[simp] theorem setTg_ieng (s : State) (x : Guard) : (s.setTg x).ieng = s.ieng := rfl
@[simp] theorem setTg_claims (s : State) (x : Guard) : (s.setTg x).claims = s.claims := rfl
@[simp] theorem setTg_cpu (s : State) (x : Guard) : (s.setTg x).cpu = s.cpu := rfl
@[simp] theorem setTg_irq (s : State) (x : Guard) : (s.setTg x).irq = s.irq := rfl
@[simp] theorem setTg_tickPending (s : State) (x : Guard) : (s.setTg x).tickPending = s.tickPending := rfl
@[simp] theorem setTg_tg (s : State) (x : Guard) : (s.setTg x).tg = x := rfl
@[simp] theorem setTg_ctr (s : State) (x : Guard) : (s.setTg x).ctr = s.ctr := rfl
@[simp] theorem setTg_mem (s : State) (x : Guard) : (s.setTg x).mem = s.mem := rfl
@[simp] theorem setTg_adm (s : State) (x : Guard) : (s.setTg x).adm = s.adm := rfl
@[simp] theorem setTg_fault (s : State) (x : Guard) : (s.setTg x).fault = s.fault := rfl
@[simp] theorem setTg_refused (s : State) (x : Guard) : (s.setTg x).refused = s.refused := rfl
@[simp] theorem setTg_trace (s : State) (x : Guard) : (s.setTg x).trace = s.trace := rfl
@[simp] theorem setTg_sched (s : State) (x : Guard) : (s.setTg x).sched = s.sched := rfl

/-! ### setCtr -/

@[simp] theorem setCtr_cfg (s : State) (x : Nat) : (s.setCtr x).cfg = s.cfg := rfl
@[simp] theorem setCtr_fg (s : State) (x : Nat) : (s.setCtr x).fg = s.fg := rfl
@[simp] theorem setCtr_swu (s : State) (x : Nat) : (s.setCtr x).swu = s.swu := rfl
@[simp] theorem setCtr_line (s : State) (x : Nat) : (s.setCtr x).line = s.line := rfl
@[simp] theorem setCtr_uart (s : State) (x : Nat) : (s.setCtr x).uart = s.uart := rfl
@[simp] theorem setCtr_ueng (s : State) (x : Nat) : (s.setCtr x).ueng = s.ueng := rfl
@[simp] theorem setCtr_i2c (s : State) (x : Nat) : (s.setCtr x).i2c = s.i2c := rfl
@[simp] theorem setCtr_ieng (s : State) (x : Nat) : (s.setCtr x).ieng = s.ieng := rfl
@[simp] theorem setCtr_claims (s : State) (x : Nat) : (s.setCtr x).claims = s.claims := rfl
@[simp] theorem setCtr_cpu (s : State) (x : Nat) : (s.setCtr x).cpu = s.cpu := rfl
@[simp] theorem setCtr_irq (s : State) (x : Nat) : (s.setCtr x).irq = s.irq := rfl
@[simp] theorem setCtr_tickPending (s : State) (x : Nat) : (s.setCtr x).tickPending = s.tickPending := rfl
@[simp] theorem setCtr_tg (s : State) (x : Nat) : (s.setCtr x).tg = s.tg := rfl
@[simp] theorem setCtr_ctr (s : State) (x : Nat) : (s.setCtr x).ctr = x := rfl
@[simp] theorem setCtr_mem (s : State) (x : Nat) : (s.setCtr x).mem = s.mem := rfl
@[simp] theorem setCtr_adm (s : State) (x : Nat) : (s.setCtr x).adm = s.adm := rfl
@[simp] theorem setCtr_fault (s : State) (x : Nat) : (s.setCtr x).fault = s.fault := rfl
@[simp] theorem setCtr_refused (s : State) (x : Nat) : (s.setCtr x).refused = s.refused := rfl
@[simp] theorem setCtr_trace (s : State) (x : Nat) : (s.setCtr x).trace = s.trace := rfl
@[simp] theorem setCtr_sched (s : State) (x : Nat) : (s.setCtr x).sched = s.sched := rfl

/-! ### setMem -/

@[simp] theorem setMem_cfg (s : State) (x : List Host.Cell) : (s.setMem x).cfg = s.cfg := rfl
@[simp] theorem setMem_fg (s : State) (x : List Host.Cell) : (s.setMem x).fg = s.fg := rfl
@[simp] theorem setMem_swu (s : State) (x : List Host.Cell) : (s.setMem x).swu = s.swu := rfl
@[simp] theorem setMem_line (s : State) (x : List Host.Cell) : (s.setMem x).line = s.line := rfl
@[simp] theorem setMem_uart (s : State) (x : List Host.Cell) : (s.setMem x).uart = s.uart := rfl
@[simp] theorem setMem_ueng (s : State) (x : List Host.Cell) : (s.setMem x).ueng = s.ueng := rfl
@[simp] theorem setMem_i2c (s : State) (x : List Host.Cell) : (s.setMem x).i2c = s.i2c := rfl
@[simp] theorem setMem_ieng (s : State) (x : List Host.Cell) : (s.setMem x).ieng = s.ieng := rfl
@[simp] theorem setMem_claims (s : State) (x : List Host.Cell) : (s.setMem x).claims = s.claims := rfl
@[simp] theorem setMem_cpu (s : State) (x : List Host.Cell) : (s.setMem x).cpu = s.cpu := rfl
@[simp] theorem setMem_irq (s : State) (x : List Host.Cell) : (s.setMem x).irq = s.irq := rfl
@[simp] theorem setMem_tickPending (s : State) (x : List Host.Cell) : (s.setMem x).tickPending = s.tickPending := rfl
@[simp] theorem setMem_tg (s : State) (x : List Host.Cell) : (s.setMem x).tg = s.tg := rfl
@[simp] theorem setMem_ctr (s : State) (x : List Host.Cell) : (s.setMem x).ctr = s.ctr := rfl
@[simp] theorem setMem_mem (s : State) (x : List Host.Cell) : (s.setMem x).mem = x := rfl
@[simp] theorem setMem_adm (s : State) (x : List Host.Cell) : (s.setMem x).adm = s.adm := rfl
@[simp] theorem setMem_fault (s : State) (x : List Host.Cell) : (s.setMem x).fault = s.fault := rfl
@[simp] theorem setMem_refused (s : State) (x : List Host.Cell) : (s.setMem x).refused = s.refused := rfl
@[simp] theorem setMem_trace (s : State) (x : List Host.Cell) : (s.setMem x).trace = s.trace := rfl
@[simp] theorem setMem_sched (s : State) (x : List Host.Cell) : (s.setMem x).sched = s.sched := rfl

/-! ### setSched -/

@[simp] theorem setSched_cfg (s : State) (x : Sched) : (s.setSched x).cfg = s.cfg := rfl
@[simp] theorem setSched_fg (s : State) (x : Sched) : (s.setSched x).fg = s.fg := rfl
@[simp] theorem setSched_swu (s : State) (x : Sched) : (s.setSched x).swu = s.swu := rfl
@[simp] theorem setSched_line (s : State) (x : Sched) : (s.setSched x).line = s.line := rfl
@[simp] theorem setSched_uart (s : State) (x : Sched) : (s.setSched x).uart = s.uart := rfl
@[simp] theorem setSched_ueng (s : State) (x : Sched) : (s.setSched x).ueng = s.ueng := rfl
@[simp] theorem setSched_i2c (s : State) (x : Sched) : (s.setSched x).i2c = s.i2c := rfl
@[simp] theorem setSched_ieng (s : State) (x : Sched) : (s.setSched x).ieng = s.ieng := rfl
@[simp] theorem setSched_claims (s : State) (x : Sched) : (s.setSched x).claims = s.claims := rfl
@[simp] theorem setSched_cpu (s : State) (x : Sched) : (s.setSched x).cpu = s.cpu := rfl
@[simp] theorem setSched_irq (s : State) (x : Sched) : (s.setSched x).irq = s.irq := rfl
@[simp] theorem setSched_tickPending (s : State) (x : Sched) : (s.setSched x).tickPending = s.tickPending := rfl
@[simp] theorem setSched_tg (s : State) (x : Sched) : (s.setSched x).tg = s.tg := rfl
@[simp] theorem setSched_ctr (s : State) (x : Sched) : (s.setSched x).ctr = s.ctr := rfl
@[simp] theorem setSched_mem (s : State) (x : Sched) : (s.setSched x).mem = s.mem := rfl
@[simp] theorem setSched_adm (s : State) (x : Sched) : (s.setSched x).adm = s.adm := rfl
@[simp] theorem setSched_fault (s : State) (x : Sched) : (s.setSched x).fault = s.fault := rfl
@[simp] theorem setSched_refused (s : State) (x : Sched) : (s.setSched x).refused = s.refused := rfl
@[simp] theorem setSched_trace (s : State) (x : Sched) : (s.setSched x).trace = s.trace := rfl
@[simp] theorem setSched_sched (s : State) (x : Sched) : (s.setSched x).sched = x := rfl

/-! ### emit -/

@[simp] theorem emit_cfg (s : State) (e : Event) : (s.emit e).cfg = s.cfg := rfl
@[simp] theorem emit_fg (s : State) (e : Event) : (s.emit e).fg = s.fg := rfl
@[simp] theorem emit_swu (s : State) (e : Event) : (s.emit e).swu = s.swu := rfl
@[simp] theorem emit_line (s : State) (e : Event) : (s.emit e).line = s.line := rfl
@[simp] theorem emit_uart (s : State) (e : Event) : (s.emit e).uart = s.uart := rfl
@[simp] theorem emit_ueng (s : State) (e : Event) : (s.emit e).ueng = s.ueng := rfl
@[simp] theorem emit_i2c (s : State) (e : Event) : (s.emit e).i2c = s.i2c := rfl
@[simp] theorem emit_ieng (s : State) (e : Event) : (s.emit e).ieng = s.ieng := rfl
@[simp] theorem emit_claims (s : State) (e : Event) : (s.emit e).claims = s.claims := rfl
@[simp] theorem emit_cpu (s : State) (e : Event) : (s.emit e).cpu = s.cpu := rfl
@[simp] theorem emit_irq (s : State) (e : Event) : (s.emit e).irq = s.irq := rfl
@[simp] theorem emit_tickPending (s : State) (e : Event) : (s.emit e).tickPending = s.tickPending := rfl
@[simp] theorem emit_tg (s : State) (e : Event) : (s.emit e).tg = s.tg := rfl
@[simp] theorem emit_ctr (s : State) (e : Event) : (s.emit e).ctr = s.ctr := rfl
@[simp] theorem emit_mem (s : State) (e : Event) : (s.emit e).mem = s.mem := rfl
@[simp] theorem emit_adm (s : State) (e : Event) : (s.emit e).adm = s.adm := rfl
@[simp] theorem emit_fault (s : State) (e : Event) : (s.emit e).fault = s.fault := rfl
@[simp] theorem emit_refused (s : State) (e : Event) : (s.emit e).refused = s.refused := rfl
@[simp] theorem emit_trace (s : State) (e : Event) : (s.emit e).trace = s.trace ++ [e] := rfl
@[simp] theorem emit_sched (s : State) (e : Event) : (s.emit e).sched = s.sched := rfl

/-! ### refuse -/

@[simp] theorem refuse_cfg (s : State) (r : Refusal) : (s.refuse r).cfg = s.cfg := rfl
@[simp] theorem refuse_fg (s : State) (r : Refusal) : (s.refuse r).fg = s.fg := rfl
@[simp] theorem refuse_swu (s : State) (r : Refusal) : (s.refuse r).swu = s.swu := rfl
@[simp] theorem refuse_line (s : State) (r : Refusal) : (s.refuse r).line = s.line := rfl
@[simp] theorem refuse_uart (s : State) (r : Refusal) : (s.refuse r).uart = s.uart := rfl
@[simp] theorem refuse_ueng (s : State) (r : Refusal) : (s.refuse r).ueng = s.ueng := rfl
@[simp] theorem refuse_i2c (s : State) (r : Refusal) : (s.refuse r).i2c = s.i2c := rfl
@[simp] theorem refuse_ieng (s : State) (r : Refusal) : (s.refuse r).ieng = s.ieng := rfl
@[simp] theorem refuse_claims (s : State) (r : Refusal) : (s.refuse r).claims = s.claims := rfl
@[simp] theorem refuse_cpu (s : State) (r : Refusal) : (s.refuse r).cpu = s.cpu := rfl
@[simp] theorem refuse_irq (s : State) (r : Refusal) : (s.refuse r).irq = s.irq := rfl
@[simp] theorem refuse_tickPending (s : State) (r : Refusal) : (s.refuse r).tickPending = s.tickPending := rfl
@[simp] theorem refuse_tg (s : State) (r : Refusal) : (s.refuse r).tg = s.tg := rfl
@[simp] theorem refuse_ctr (s : State) (r : Refusal) : (s.refuse r).ctr = s.ctr := rfl
@[simp] theorem refuse_mem (s : State) (r : Refusal) : (s.refuse r).mem = s.mem := rfl
@[simp] theorem refuse_adm (s : State) (r : Refusal) : (s.refuse r).adm = s.adm := rfl
@[simp] theorem refuse_fault (s : State) (r : Refusal) : (s.refuse r).fault = s.fault := rfl
@[simp] theorem refuse_refused (s : State) (r : Refusal) : (s.refuse r).refused = some r := rfl
@[simp] theorem refuse_trace (s : State) (r : Refusal) : (s.refuse r).trace = s.trace := rfl
@[simp] theorem refuse_sched (s : State) (r : Refusal) : (s.refuse r).sched = s.sched := rfl

/-! ### raise -/

@[simp] theorem raise_cfg (s : State) (a : Agent) (r : Fault) : (s.raise a r).cfg = s.cfg := rfl
@[simp] theorem raise_fg (s : State) (a : Agent) (r : Fault) : (s.raise a r).fg = s.fg := rfl
@[simp] theorem raise_swu (s : State) (a : Agent) (r : Fault) : (s.raise a r).swu = s.swu := rfl
@[simp] theorem raise_line (s : State) (a : Agent) (r : Fault) : (s.raise a r).line = s.line := rfl
@[simp] theorem raise_uart (s : State) (a : Agent) (r : Fault) : (s.raise a r).uart = s.uart := rfl
@[simp] theorem raise_ueng (s : State) (a : Agent) (r : Fault) : (s.raise a r).ueng = s.ueng := rfl
@[simp] theorem raise_i2c (s : State) (a : Agent) (r : Fault) : (s.raise a r).i2c = s.i2c := rfl
@[simp] theorem raise_ieng (s : State) (a : Agent) (r : Fault) : (s.raise a r).ieng = s.ieng := rfl
@[simp] theorem raise_claims (s : State) (a : Agent) (r : Fault) : (s.raise a r).claims = s.claims := rfl
@[simp] theorem raise_cpu (s : State) (a : Agent) (r : Fault) : (s.raise a r).cpu = s.cpu := rfl
@[simp] theorem raise_irq (s : State) (a : Agent) (r : Fault) : (s.raise a r).irq = s.irq := rfl
@[simp] theorem raise_tickPending (s : State) (a : Agent) (r : Fault) : (s.raise a r).tickPending = s.tickPending := rfl
@[simp] theorem raise_tg (s : State) (a : Agent) (r : Fault) : (s.raise a r).tg = s.tg := rfl
@[simp] theorem raise_ctr (s : State) (a : Agent) (r : Fault) : (s.raise a r).ctr = s.ctr := rfl
@[simp] theorem raise_mem (s : State) (a : Agent) (r : Fault) : (s.raise a r).mem = s.mem := rfl
@[simp] theorem raise_adm (s : State) (a : Agent) (r : Fault) : (s.raise a r).adm = s.adm := rfl
@[simp] theorem raise_fault (s : State) (a : Agent) (r : Fault) : (s.raise a r).fault = s.fault ++ [{ reason := r, agent := a, pos := s.position a }] := rfl
@[simp] theorem raise_refused (s : State) (a : Agent) (r : Fault) : (s.raise a r).refused = s.refused := rfl
@[simp] theorem raise_trace (s : State) (a : Agent) (r : Fault) : (s.raise a r).trace = s.trace := rfl
@[simp] theorem raise_sched (s : State) (a : Agent) (r : Fault) : (s.raise a r).sched = s.sched := rfl

/-! ### goto -/

@[simp] theorem goto_cfg (s : State) (l : Label) : (s.goto l).cfg = s.cfg := rfl
@[simp] theorem goto_fg (s : State) (l : Label) : (s.goto l).fg = { s.fg with label := l } := rfl
@[simp] theorem goto_swu (s : State) (l : Label) : (s.goto l).swu = s.swu := rfl
@[simp] theorem goto_line (s : State) (l : Label) : (s.goto l).line = s.line := rfl
@[simp] theorem goto_uart (s : State) (l : Label) : (s.goto l).uart = s.uart := rfl
@[simp] theorem goto_ueng (s : State) (l : Label) : (s.goto l).ueng = s.ueng := rfl
@[simp] theorem goto_i2c (s : State) (l : Label) : (s.goto l).i2c = s.i2c := rfl
@[simp] theorem goto_ieng (s : State) (l : Label) : (s.goto l).ieng = s.ieng := rfl
@[simp] theorem goto_claims (s : State) (l : Label) : (s.goto l).claims = s.claims := rfl
@[simp] theorem goto_cpu (s : State) (l : Label) : (s.goto l).cpu = s.cpu := rfl
@[simp] theorem goto_irq (s : State) (l : Label) : (s.goto l).irq = s.irq := rfl
@[simp] theorem goto_tickPending (s : State) (l : Label) : (s.goto l).tickPending = s.tickPending := rfl
@[simp] theorem goto_tg (s : State) (l : Label) : (s.goto l).tg = s.tg := rfl
@[simp] theorem goto_ctr (s : State) (l : Label) : (s.goto l).ctr = s.ctr := rfl
@[simp] theorem goto_mem (s : State) (l : Label) : (s.goto l).mem = s.mem := rfl
@[simp] theorem goto_adm (s : State) (l : Label) : (s.goto l).adm = s.adm := rfl
@[simp] theorem goto_fault (s : State) (l : Label) : (s.goto l).fault = s.fault := rfl
@[simp] theorem goto_refused (s : State) (l : Label) : (s.goto l).refused = s.refused := rfl
@[simp] theorem goto_trace (s : State) (l : Label) : (s.goto l).trace = s.trace := rfl
@[simp] theorem goto_sched (s : State) (l : Label) : (s.goto l).sched = s.sched := rfl

/-! ### done -/

@[simp] theorem done_cfg (s : State) : (s.done).cfg = s.cfg := rfl
@[simp] theorem done_fg (s : State) : (s.done).fg = { s.fg with k := s.fg.k + 1, label := .l0 } := rfl
@[simp] theorem done_swu (s : State) : (s.done).swu = s.swu := rfl
@[simp] theorem done_line (s : State) : (s.done).line = s.line := rfl
@[simp] theorem done_uart (s : State) : (s.done).uart = s.uart := rfl
@[simp] theorem done_ueng (s : State) : (s.done).ueng = s.ueng := rfl
@[simp] theorem done_i2c (s : State) : (s.done).i2c = s.i2c := rfl
@[simp] theorem done_ieng (s : State) : (s.done).ieng = s.ieng := rfl
@[simp] theorem done_claims (s : State) : (s.done).claims = s.claims := rfl
@[simp] theorem done_cpu (s : State) : (s.done).cpu = s.cpu := rfl
@[simp] theorem done_irq (s : State) : (s.done).irq = s.irq := rfl
@[simp] theorem done_tickPending (s : State) : (s.done).tickPending = s.tickPending := rfl
@[simp] theorem done_tg (s : State) : (s.done).tg = s.tg := rfl
@[simp] theorem done_ctr (s : State) : (s.done).ctr = s.ctr := rfl
@[simp] theorem done_mem (s : State) : (s.done).mem = s.mem := rfl
@[simp] theorem done_adm (s : State) : (s.done).adm = s.adm := rfl
@[simp] theorem done_fault (s : State) : (s.done).fault = s.fault := rfl
@[simp] theorem done_refused (s : State) : (s.done).refused = s.refused := rfl
@[simp] theorem done_trace (s : State) : (s.done).trace = s.trace := rfl
@[simp] theorem done_sched (s : State) : (s.done).sched = s.sched := rfl

/-! ### irqGoto -/

@[simp] theorem irqGoto_cfg (s : State) (l : IrqLabel) : (s.irqGoto l).cfg = s.cfg := rfl
@[simp] theorem irqGoto_fg (s : State) (l : IrqLabel) : (s.irqGoto l).fg = s.fg := rfl
@[simp] theorem irqGoto_swu (s : State) (l : IrqLabel) : (s.irqGoto l).swu = s.swu := rfl
@[simp] theorem irqGoto_line (s : State) (l : IrqLabel) : (s.irqGoto l).line = s.line := rfl
@[simp] theorem irqGoto_uart (s : State) (l : IrqLabel) : (s.irqGoto l).uart = s.uart := rfl
@[simp] theorem irqGoto_ueng (s : State) (l : IrqLabel) : (s.irqGoto l).ueng = s.ueng := rfl
@[simp] theorem irqGoto_i2c (s : State) (l : IrqLabel) : (s.irqGoto l).i2c = s.i2c := rfl
@[simp] theorem irqGoto_ieng (s : State) (l : IrqLabel) : (s.irqGoto l).ieng = s.ieng := rfl
@[simp] theorem irqGoto_claims (s : State) (l : IrqLabel) : (s.irqGoto l).claims = s.claims := rfl
@[simp] theorem irqGoto_cpu (s : State) (l : IrqLabel) : (s.irqGoto l).cpu = s.cpu := rfl
@[simp] theorem irqGoto_irq (s : State) (l : IrqLabel) : (s.irqGoto l).irq = { s.irq with label := l } := rfl
@[simp] theorem irqGoto_tickPending (s : State) (l : IrqLabel) : (s.irqGoto l).tickPending = s.tickPending := rfl
@[simp] theorem irqGoto_tg (s : State) (l : IrqLabel) : (s.irqGoto l).tg = s.tg := rfl
@[simp] theorem irqGoto_ctr (s : State) (l : IrqLabel) : (s.irqGoto l).ctr = s.ctr := rfl
@[simp] theorem irqGoto_mem (s : State) (l : IrqLabel) : (s.irqGoto l).mem = s.mem := rfl
@[simp] theorem irqGoto_adm (s : State) (l : IrqLabel) : (s.irqGoto l).adm = s.adm := rfl
@[simp] theorem irqGoto_fault (s : State) (l : IrqLabel) : (s.irqGoto l).fault = s.fault := rfl
@[simp] theorem irqGoto_refused (s : State) (l : IrqLabel) : (s.irqGoto l).refused = s.refused := rfl
@[simp] theorem irqGoto_trace (s : State) (l : IrqLabel) : (s.irqGoto l).trace = s.trace := rfl
@[simp] theorem irqGoto_sched (s : State) (l : IrqLabel) : (s.irqGoto l).sched = s.sched := rfl

/-! ### irqReturn -/

@[simp] theorem irqReturn_cfg (s : State) (w : Bool) : (s.irqReturn w).cfg = s.cfg := rfl
@[simp] theorem irqReturn_fg (s : State) (w : Bool) : (s.irqReturn w).fg = s.fg := rfl
@[simp] theorem irqReturn_swu (s : State) (w : Bool) : (s.irqReturn w).swu = s.swu := rfl
@[simp] theorem irqReturn_line (s : State) (w : Bool) : (s.irqReturn w).line = s.line := rfl
@[simp] theorem irqReturn_uart (s : State) (w : Bool) : (s.irqReturn w).uart = s.uart := rfl
@[simp] theorem irqReturn_ueng (s : State) (w : Bool) : (s.irqReturn w).ueng = s.ueng := rfl
@[simp] theorem irqReturn_i2c (s : State) (w : Bool) : (s.irqReturn w).i2c = s.i2c := rfl
@[simp] theorem irqReturn_ieng (s : State) (w : Bool) : (s.irqReturn w).ieng = s.ieng := rfl
@[simp] theorem irqReturn_claims (s : State) (w : Bool) : (s.irqReturn w).claims = s.claims := rfl
@[simp] theorem irqReturn_cpu (s : State) (w : Bool) : (s.irqReturn w).cpu = s.cpu := rfl
@[simp] theorem irqReturn_irq (s : State) (w : Bool) : (s.irqReturn w).irq = { s.irq with label := .d2, wh := w } := rfl
@[simp] theorem irqReturn_tickPending (s : State) (w : Bool) : (s.irqReturn w).tickPending = s.tickPending := rfl
@[simp] theorem irqReturn_tg (s : State) (w : Bool) : (s.irqReturn w).tg = s.tg := rfl
@[simp] theorem irqReturn_ctr (s : State) (w : Bool) : (s.irqReturn w).ctr = s.ctr := rfl
@[simp] theorem irqReturn_mem (s : State) (w : Bool) : (s.irqReturn w).mem = s.mem := rfl
@[simp] theorem irqReturn_adm (s : State) (w : Bool) : (s.irqReturn w).adm = s.adm := rfl
@[simp] theorem irqReturn_fault (s : State) (w : Bool) : (s.irqReturn w).fault = s.fault := rfl
@[simp] theorem irqReturn_refused (s : State) (w : Bool) : (s.irqReturn w).refused = s.refused := rfl
@[simp] theorem irqReturn_trace (s : State) (w : Bool) : (s.irqReturn w).trace = s.trace := rfl
@[simp] theorem irqReturn_sched (s : State) (w : Bool) : (s.irqReturn w).sched = s.sched := rfl

end Sys2Proof.Machine.State
end

