-- ==== Sys2Proof/Laws/Memory.lean ====
section
/-! SUPPORT. The memory: a read after a write, and the canonical form that every write keeps. -/

namespace Sys2Proof.Machine

theorem memGet_of_lt (m : List Host.Cell) (lo : Nat) (h : memSorted (some lo) m = true) (a : Nat) (ha : a ≤ lo) :
    memGet m a = memDefault := by
  induction m generalizing lo with
  | nil => rfl
  | cons c m ih =>
    obtain ⟨b, v⟩ := c
    simp only [memSorted, Bool.and_eq_true, decide_eq_true_eq] at h
    rw [memGet, if_neg (by omega)]
    exact ih b h.2 (by omega)

theorem memSorted_weaken (m : List Host.Cell) (lo lo' : Nat) (h : memSorted (some lo) m = true) (hl : lo' ≤ lo) :
    memSorted (some lo') m = true := by
  cases m with
  | nil => rfl
  | cons c m =>
    simp only [memSorted, Bool.and_eq_true, decide_eq_true_eq] at h ⊢
    exact ⟨⟨by omega, h.1.2⟩, h.2⟩

theorem memSorted_none (m : List Host.Cell) (lo : Nat) (h : memSorted (some lo) m = true) :
    memSorted none m = true := by
  cases m with
  | nil => rfl
  | cons c m =>
    simp only [memSorted, Bool.and_eq_true] at h ⊢
    exact ⟨⟨trivial, h.1.2⟩, h.2⟩

/-- An entry in front of a memory whose addresses are above it. -/
theorem memSorted_entry (m : List Host.Cell) (lo a : Nat) (v : Byte) (hlo : lo < a)
    (h : memSorted (some a) m = true) : memSorted (some lo) (memEntry a v ++ m) = true := by
  by_cases hv : v = memDefault
  · simpa [memEntry, hv] using memSorted_weaken m a lo h (by omega)
  · simp [memEntry, hv, memSorted, hlo, h]

theorem memSorted_memSet (m : List Host.Cell) (lo a : Nat) (v : Byte) (hlo : lo < a)
    (h : memSorted (some lo) m = true) : memSorted (some lo) (memSet m a v) = true := by
  induction m generalizing lo with
  | nil => simpa [memSet] using memSorted_entry [] lo a v hlo rfl
  | cons c m ih =>
    obtain ⟨b, w⟩ := c
    have h' := h
    simp only [memSorted, Bool.and_eq_true, decide_eq_true_eq] at h
    simp only [memSet]
    split
    · next hab =>
      refine memSorted_entry _ lo a v hlo ?_
      simp only [memSorted, Bool.and_eq_true, decide_eq_true_eq]
      exact ⟨⟨hab, h.1.2⟩, h.2⟩
    · split
      · next hab => subst hab; exact memSorted_entry m lo a v hlo h.2
      · simp only [memSorted, Bool.and_eq_true, decide_eq_true_eq]
        exact ⟨⟨h.1.1, h.1.2⟩, ih b (by omega) h.2⟩

/-- Every write keeps the canonical form. -/
theorem memSet_wf (m : List Host.Cell) (a : Nat) (v : Byte) (h : Memory.wf m = true) :
    Memory.wf (memSet m a v) = true := by
  unfold Memory.wf at *
  cases m with
  | nil => by_cases hv : v = memDefault <;> simp [memSet, memEntry, memSorted, hv]
  | cons c m =>
    obtain ⟨b, w⟩ := c
    simp only [memSorted, Bool.and_eq_true] at h
    have entry : ∀ (m' : List Host.Cell), memSorted (some a) m' = true →
        memSorted none (memEntry a v ++ m') = true := by
      intro m' hm
      by_cases hv : v = memDefault
      · simpa [memEntry, hv] using memSorted_none m' a hm
      · simp [memEntry, hv, memSorted, hm]
    simp only [memSet]
    split
    · next hab =>
      refine entry _ ?_
      simp only [memSorted, Bool.and_eq_true, decide_eq_true_eq]
      exact ⟨⟨hab, h.1.2⟩, h.2⟩
    · split
      · next hab => subst hab; exact entry m h.2
      · simp only [memSorted, Bool.and_eq_true]
        exact ⟨⟨trivial, h.1.2⟩, memSorted_memSet m b a v (by omega) h.2⟩

/-- A read after a write, on a canonical memory: the byte written at its address, and every other byte as it was. -/
theorem memGet_memSet (m : List Host.Cell) (a a' : Nat) (v : Byte) (h : Memory.wf m = true) :
    memGet (memSet m a v) a' = if a = a' then v else memGet m a' := by
  unfold Memory.wf at h
  have entry : ∀ (m' : List Host.Cell), memSorted (some a) m' = true →
      memGet (memEntry a v ++ m') a' = if a = a' then v else memGet m' a' := by
    intro m' hm
    by_cases hv : v = memDefault
    · by_cases ha : a = a'
      · simp [memEntry, hv, ha, memGet_of_lt m' a hm a' (by omega)]
      · simp [memEntry, hv, ha]
    · simp [memEntry, hv, memGet]
  induction m with
  | nil => simpa [memSet, memGet] using entry [] rfl
  | cons c m ih =>
    obtain ⟨b, w⟩ := c
    simp only [memSorted, Bool.and_eq_true] at h
    simp only [memSet]
    split
    · next hab =>
      refine entry _ ?_
      simp only [memSorted, Bool.and_eq_true, decide_eq_true_eq]
      exact ⟨⟨hab, h.1.2⟩, h.2⟩
    · split
      · next hab =>
        subst hab
        rw [entry m h.2]
        by_cases ha : a = a' <;> simp [memGet, ha]
      · next h1 h2 =>
        rw [memGet, memGet]
        have := ih (memSorted_none m b h.2)
        by_cases hb : b = a'
        · subst hb; simp [h2]
        · simp [hb, this]

/-- Where a written memory's addresses lie: at the address written, or where they lay. -/
theorem mem_memSet (m : List Host.Cell) (a : Nat) (v : Byte) (c : Host.Cell) (h : c ∈ memSet m a v) :
    c.1 = a ∨ c ∈ m := by
  have entry : ∀ (m' : List Host.Cell), c ∈ memEntry a v ++ m' → c.1 = a ∨ c ∈ m' := by
    intro m' hm
    by_cases hv : v = memDefault
    · exact .inr (by simpa [memEntry, hv] using hm)
    · rcases (by simpa [memEntry, hv] using hm : c = (a, v) ∨ c ∈ m') with rfl | h
      · exact .inl rfl
      · exact .inr h
  induction m with
  | nil => simpa [memSet] using entry [] (by simpa [memSet] using h)
  | cons d m ih =>
    obtain ⟨b, w⟩ := d
    simp only [memSet] at h
    split at h
    · exact entry _ h
    · split at h
      · rcases entry m h with h | h
        · exact .inl h
        · exact .inr (List.mem_cons_of_mem _ h)
      · rcases List.mem_cons.1 h with rfl | h
        · exact .inr List.mem_cons_self
        · rcases ih h with h | h
          · exact .inl h
          · exact .inr (List.mem_cons_of_mem _ h)

/-- Everything MemRead can do: go on with the byte, or stay where it is (R80). -/
theorem memRead_cases (a : Nat) (s : State) (k : Byte → State) :
    (s.admitted a = true ∧ memRead a s k = k (memGet s.mem a)) ∨ (s.admitted a = false ∧ memRead a s k = s) := by
  cases h : s.admitted a <;> simp [memRead, h]

/-- Everything MemWrite can do: go on with the byte written, or stay where it is (R80). -/
theorem memWrite_cases (a : Nat) (v : Byte) (s : State) (k : State → State) :
    (s.admitted a = true ∧ memWrite a v s k = k (s.setMem (memSet s.mem a v)))
      ∨ (s.admitted a = false ∧ memWrite a v s k = s) := by
  cases h : s.admitted a <;> simp [memWrite, h]

/-- An admitted address lies in the address space (R80). -/
theorem admitted_lt (s : State) (a : Nat) (h : s.admitted a = true) : a < 2 ^ s.cfg.addrW := by
  simp only [State.admitted, Bool.and_eq_true, decide_eq_true_eq] at h
  exact h.1

end Sys2Proof.Machine
end

