-- ==== Sys2Proof/Laws/Ops.lean ====
section
/-! SUPPORT. One lemma per shared operation that says everything it can do; later proofs cite it and do not unfold the
operation. -/

namespace Sys2Proof.Machine

/-! ### Registers -/

theorem fetch_cases {α : Type} (ag : Agent) (r : Reg α) (s : State) (k : α → State) :
    (∃ v, r = .written v ∧ fetch ag r s k = k v)
      ∨ (r = .unwritten ∧ fetch ag r s k = s.raise ag .unwrittenRead) := by
  cases r with
  | unwritten => exact .inr ⟨rfl, rfl⟩
  | written v => exact .inl ⟨v, rfl, rfl⟩

@[simp] theorem fetch_written {α : Type} (ag : Agent) (v : α) (s : State) (k : α → State) :
    fetch ag (.written v) s k = k v := rfl

@[simp] theorem fetch_unwritten {α : Type} (ag : Agent) (s : State) (k : α → State) :
    fetch ag .unwritten s k = s.raise ag .unwrittenRead := rfl

theorem writeLegal_cases (legal : Bool) (s k : State) :
    (legal = true ∧ writeLegal legal s k = k)
      ∨ (legal = false ∧ writeLegal legal s k = s.refuse .illegalRegisterValue) := by
  cases legal
  · exact .inr ⟨rfl, rfl⟩
  · exact .inl ⟨rfl, rfl⟩

theorem writeUartTxbuf_cases (ag : Agent) (v : Byte) (s : State) (k : State → State) :
    (s.ueng.txregFull = .written false ∧ writeUartTxbuf ag v s k = k (s.setUeng { s.ueng with
        txbuf := .written v, txreg := .written v, txregFull := .written true, txReady := .written false }))
      ∨ (s.ueng.txregFull = .written true ∧ writeUartTxbuf ag v s k = s.raise ag .txbufOverwrite)
      ∨ (s.ueng.txregFull = .unwritten ∧ writeUartTxbuf ag v s k = s.raise ag .unwrittenRead) := by
  unfold writeUartTxbuf
  rcases h : s.ueng.txregFull with _ | b
  · exact .inr (.inr ⟨rfl, rfl⟩)
  · cases b
    · exact .inl ⟨rfl, rfl⟩
    · exact .inr (.inl ⟨rfl, rfl⟩)

theorem writeI2cTxbuf_cases (ag : Agent) (v : Byte) (s : State) (k : State → State) :
    (s.ieng.txregFull = .written false ∧ writeI2cTxbuf ag v s k = k (s.setIeng { s.ieng with
        txbuf := .written v, txreg := .written v, txregFull := .written true, txReady := .written false }))
      ∨ (s.ieng.txregFull = .written true ∧ writeI2cTxbuf ag v s k = s.raise ag .txbufOverwrite)
      ∨ (s.ieng.txregFull = .unwritten ∧ writeI2cTxbuf ag v s k = s.raise ag .unwrittenRead) := by
  unfold writeI2cTxbuf
  rcases h : s.ieng.txregFull with _ | b
  · exact .inr (.inr ⟨rfl, rfl⟩)
  · cases b
    · exact .inl ⟨rfl, rfl⟩
    · exact .inr (.inl ⟨rfl, rfl⟩)

theorem readUartRxbuf_cases (ag : Agent) (s : State) (k : Byte → State → State) :
    (∃ v, s.ueng.rxbuf = .written v
        ∧ readUartRxbuf ag s k = k v (s.setUeng { s.ueng with rxReady := .written false }))
      ∨ (s.ueng.rxbuf = .unwritten ∧ readUartRxbuf ag s k = s.raise ag .unwrittenRead) :=
  fetch_cases ag s.ueng.rxbuf s _

theorem readI2cRxbuf_cases (ag : Agent) (s : State) (k : Byte → State → State) :
    (∃ v, s.ieng.rxbuf = .written v
        ∧ readI2cRxbuf ag s k = k v (s.setIeng { s.ieng with rxReady := .written false }))
      ∨ (s.ieng.rxbuf = .unwritten ∧ readI2cRxbuf ag s k = s.raise ag .unwrittenRead) :=
  fetch_cases ag s.ieng.rxbuf s _

theorem writeUartSwrst_true (s : State) :
    writeUartSwrst true s = s.setUeng { s.ueng with swrst := .written true } := by simp [writeUartSwrst]

theorem writeUartSwrst_false (s : State) :
    (s.ueng.swrst = .written true
        ∧ writeUartSwrst false s = s.setUeng (uartRelease { s.ueng with swrst := .written false }))
      ∨ (s.ueng.swrst ≠ .written true
        ∧ writeUartSwrst false s = s.setUeng { s.ueng with swrst := .written false }) := by
  by_cases h : s.ueng.swrst = .written true <;> simp [writeUartSwrst, h]

theorem writeI2cSwrst_true (s : State) :
    writeI2cSwrst true s = s.setIeng { s.ieng with swrst := .written true } := by simp [writeI2cSwrst]

theorem writeI2cSwrst_false (s : State) :
    (s.ieng.swrst = .written true
        ∧ writeI2cSwrst false s
          = (s.setIeng (i2cRelease { s.ieng with swrst := .written false })).setI2c { s.i2c with phase := .idle })
      ∨ (s.ieng.swrst ≠ .written true
        ∧ writeI2cSwrst false s = s.setIeng { s.ieng with swrst := .written false }) := by
  by_cases h : s.ieng.swrst = .written true <;> simp [writeI2cSwrst, h]

/-! ### Cursors -/

theorem cursorAfter_lt (s : State) (a : Nat) : cursorAfter s a < 2 ^ s.cfg.addrW := by
  unfold cursorAfter
  split
  · assumption
  · exact Nat.mod_lt _ (Nat.two_pow_pos _)

theorem cursorAfter_of_lt (s : State) (a : Nat) (h : a + 1 < 2 ^ s.cfg.addrW) : cursorAfter s a = a + 1 := by
  simp [cursorAfter, h]

theorem takeFree_cases (s : State) (a : Nat) :
    (a + 1 < 2 ^ s.cfg.addrW ∧ takeFree s a = s)
      ∨ (2 ^ s.cfg.addrW ≤ a + 1 ∧ takeFree s a = s.setSched { s.sched with freed := s.sched.freed + 1 }) := by
  unfold takeFree
  split
  · exact .inl ⟨by assumption, rfl⟩
  · exact .inr ⟨by omega, rfl⟩

/-- Taking a free value changes nothing but the model's own counter. -/
theorem takeFree_eq (s : State) (a : Nat) :
    takeFree s a = s.setSched (takeFree s a).sched := by
  unfold takeFree
  split <;> rfl

/-! ### Clock claims -/

@[simp] theorem claimCount_setClaim (l : List Nat) (c d : ClockId) (v : Nat) :
    claimCount (setClaim l c v) d = if d = c then v else claimCount l d := by
  induction l generalizing c d with
  | nil =>
    induction c generalizing d with
    | zero => cases d <;> simp [setClaim, claimCount]
    | succ c ih =>
      cases d with
      | zero => simp [setClaim, claimCount]
      | succ d =>
        have := ih d
        simp [setClaim, claimCount] at this ⊢
        exact this
  | cons x l ih =>
    cases c with
    | zero => cases d <;> simp [setClaim, claimCount]
    | succ c =>
      cases d with
      | zero => simp [setClaim, claimCount]
      | succ d =>
        have := ih c d
        simp [setClaim, claimCount] at this ⊢
        exact this

theorem claim_cases (c : ClockId) (s : State) :
    claim c s = s.setClaims (claim c s).claims
      ∧ ∀ d, claimCount (claim c s).claims d =
          if d = c then (match s.cfg.claimKind with | .counter => claimCount s.claims c + 1 | .boolean => 1)
          else claimCount s.claims d :=
  ⟨rfl, fun d => by cases h : s.cfg.claimKind <;> simp [claim, h]⟩

theorem release_cases (ag : Agent) (c : ClockId) (s : State) (k : State → State) :
    (s.cfg.claimKind = .counter ∧ claimCount s.claims c = 0 ∧ release ag c s k = s.raise ag .releaseUnderflow)
      ∨ (s.cfg.claimKind = .counter ∧ 0 < claimCount s.claims c
          ∧ release ag c s k = k (s.setClaims (setClaim s.claims c (claimCount s.claims c - 1))))
      ∨ (s.cfg.claimKind = .boolean ∧ release ag c s k = k (s.setClaims (setClaim s.claims c 0))) := by
  unfold release
  cases s.cfg.claimKind with
  | counter =>
    by_cases h : claimCount s.claims c = 0
    · exact .inl ⟨rfl, h, by simp [h]⟩
    · exact .inr (.inl ⟨rfl, by omega, by simp [h]⟩)
  | boolean => exact .inr (.inr ⟨rfl, rfl⟩)

/-! ### The Timeout Guard and the wait loop -/

theorem tgTick_cases (g : Guard) :
    (g.armed = true ∧ g.expired = false
        ∧ tgTick g = { g with count := g.count - 1, expired := g.count - 1 == 0 })
      ∨ ((g.armed = false ∨ g.expired = true) ∧ tgTick g = g) := by
  obtain ⟨armed, count, expired⟩ := g
  cases armed <;> cases expired <;> simp [tgTick]

/-- Everything a micro-step of WAIT can do (R130, R131; log 30 for `w2` and `w3` in the atomic variant). -/
theorem waitStep_cases (cond : Bool) (tmo : Option Nat) (exit : Label) (s : State) :
    (s.fg.label = .w0 ∧ (∃ t, tmo = some t ∧ waitStep cond tmo exit s = (tgArm t s).goto .w1))
      ∨ (s.fg.label = .w0 ∧ tmo = none ∧ waitStep cond tmo exit s = s.goto .w1)
      ∨ (s.fg.label = .w1 ∧ s.cfg.waitAtomic = true ∧ (cond || tgTriggered tmo s.tg) = true
          ∧ waitStep cond tmo exit s = s.goto .w5)
      ∨ (s.fg.label = .w1 ∧ s.cfg.waitAtomic = true ∧ (cond || tgTriggered tmo s.tg) = false
          ∧ waitStep cond tmo exit s = (s.setCpu { s.cpu with asleep := true }).goto .w4)
      ∨ (s.fg.label = .w1 ∧ s.cfg.waitAtomic = false
          ∧ waitStep cond tmo exit s = (s.setFg { s.fg with c := cond || tgTriggered tmo s.tg }).goto .w2)
      ∨ (s.fg.label = .w2 ∧ s.fg.c = true ∧ waitStep cond tmo exit s = s.goto .w5)
      ∨ (s.fg.label = .w2 ∧ s.fg.c = false ∧ waitStep cond tmo exit s = s.goto .w3)
      ∨ (s.fg.label = .w3 ∧ waitStep cond tmo exit s = (s.setCpu { s.cpu with asleep := true }).goto .w4)
      ∨ (s.fg.label = .w4 ∧ s.cpu.asleep = true ∧ waitStep cond tmo exit s = s)
      ∨ (s.fg.label = .w4 ∧ s.cpu.asleep = false ∧ waitStep cond tmo exit s = s.goto .w1)
      ∨ (s.fg.label = .w5 ∧ tmo = none ∧ waitStep cond tmo exit s = s.goto exit)
      ∨ (s.fg.label = .w5 ∧ tmo ≠ none ∧ waitStep cond tmo exit s = (tgDisarm s).goto exit)
      ∨ (s.fg.label ∉ [Label.w0, .w1, .w2, .w3, .w4, .w5] ∧ waitStep cond tmo exit s = s) := by
  unfold waitStep
  cases hl : s.fg.label
  case w0 => cases tmo <;> simp
  case w1 =>
    cases ha : s.cfg.waitAtomic
    · simp
    · cases hc : (cond || tgTriggered tmo s.tg) <;> simp
  case w2 => cases hc : s.fg.c <;> simp
  case w3 => simp
  case w4 => cases hc : s.cpu.asleep <;> simp
  case w5 => cases tmo <;> simp
  all_goals simp

theorem holdUntil_cases (p : Bool) (s k : State) :
    (p = true ∧ holdUntil p s k = k) ∨ (p = false ∧ holdUntil p s k = s) := by
  cases p
  · exact .inr ⟨rfl, rfl⟩
  · exact .inl ⟨rfl, rfl⟩

theorem requireLive_cases (live : Bool) (s k : State) :
    (live = true ∧ requireLive live s k = k) ∨ (live = false ∧ requireLive live s k = s.refuse .notInitialised) := by
  cases live
  · exact .inr ⟨rfl, rfl⟩
  · exact .inl ⟨rfl, rfl⟩

/-! ### Entry and exit -/

theorem irqExit_cases (w : Bool) (s : State) :
    (∃ b, s.cpu.saved = .written b
        ∧ irqExit w s = s.setCpu { s.cpu with gie := true, asleep := b && !w, ctx := .fg })
      ∨ (s.cpu.saved = .unwritten ∧ irqExit w s = s.raise .irq .unwrittenRead) :=
  fetch_cases .irq s.cpu.saved s _

theorem irqEnter_eq (v : Vec) (s : State) :
    irqEnter v s = (s.setCpu { asleep := false, gie := false, ctx := .irq v 0 false, saved := .written s.cpu.asleep }).setIrq
      { s.irq with label := if v = .vt then .k0 else .d0 } := rfl

end Sys2Proof.Machine
end

