-- ==== Sys2Proof/Laws/PerInstr.lean ====
section
/-! SUPPORT. Facts about every operation as syntax, one lemma per constructor. -/

namespace Sys2Proof.Laws.EncodedRow

/-- The fields an operation is encoded in select a row of the opcode map (R103), leave every reserved bit and every
unused field of its format 0 (R101, R105), and name that operation. -/
def Statement (i : Instr) : Prop :=
  ∃ row, opcodeRow (encodeFields i).op = some row ∧ formatClean row.1 (encodeFields i) = true
    ∧ row.2 (encodeFields i) = i

theorem swuPutc (b : Byte) : Statement (.swuPutc b) :=
  ⟨_, rfl, by simp [encodeFields, opOnly, formatClean, usesDir, usesTmo, usesAddr, usesByte, usesPtr, usesCount], rfl⟩

theorem swuGetc : Statement .swuGetc :=
  ⟨_, rfl, by simp [encodeFields, opOnly, formatClean, usesDir, usesTmo, usesAddr, usesByte, usesPtr, usesCount], rfl⟩

theorem swuStatusRead : Statement .swuStatusRead :=
  ⟨_, rfl, by simp [encodeFields, opOnly, formatClean, usesDir, usesTmo, usesAddr, usesByte, usesPtr, usesCount], rfl⟩

theorem swuStatusClear : Statement .swuStatusClear :=
  ⟨_, rfl, by simp [encodeFields, opOnly, formatClean, usesDir, usesTmo, usesAddr, usesByte, usesPtr, usesCount], rfl⟩

theorem uartInit : Statement .uartInit :=
  ⟨_, rfl, by simp [encodeFields, opOnly, formatClean, usesDir, usesTmo, usesAddr, usesByte, usesPtr, usesCount], rfl⟩

theorem uartEnable : Statement .uartEnable :=
  ⟨_, rfl, by simp [encodeFields, opOnly, formatClean, usesDir, usesTmo, usesAddr, usesByte, usesPtr, usesCount], rfl⟩

theorem uartDisable : Statement .uartDisable :=
  ⟨_, rfl, by simp [encodeFields, opOnly, formatClean, usesDir, usesTmo, usesAddr, usesByte, usesPtr, usesCount], rfl⟩

theorem uartTransfer (p : BitVec 32) (n : BitVec 16) (tmo : Option (BitVec 16)) : Statement (.uartTransfer p n tmo) := by
  cases tmo <;> exact ⟨_, rfl, by simp [encodeFields, withTmo, opOnly, formatClean, usesDir, usesTmo, usesAddr, usesByte, usesPtr, usesCount], rfl⟩

theorem uartPutc (b : Byte) (tmo : Option (BitVec 16)) : Statement (.uartPutc b tmo) := by
  cases tmo <;> exact ⟨_, rfl, by simp [encodeFields, withTmo, opOnly, formatClean, usesDir, usesTmo, usesAddr, usesByte, usesPtr, usesCount], rfl⟩

theorem uartPuts (p : BitVec 32) (tmo : Option (BitVec 16)) : Statement (.uartPuts p tmo) := by
  cases tmo <;> exact ⟨_, rfl, by simp [encodeFields, withTmo, opOnly, formatClean, usesDir, usesTmo, usesAddr, usesByte, usesPtr, usesCount], rfl⟩

theorem uartGetc (tmo : Option (BitVec 16)) : Statement (.uartGetc tmo) := by
  cases tmo <;> exact ⟨_, rfl, by simp [encodeFields, withTmo, opOnly, formatClean, usesDir, usesTmo, usesAddr, usesByte, usesPtr, usesCount], rfl⟩

theorem uartStatusRead : Statement .uartStatusRead :=
  ⟨_, rfl, by simp [encodeFields, opOnly, formatClean, usesDir, usesTmo, usesAddr, usesByte, usesPtr, usesCount], rfl⟩

theorem uartStatusClear : Statement .uartStatusClear :=
  ⟨_, rfl, by simp [encodeFields, opOnly, formatClean, usesDir, usesTmo, usesAddr, usesByte, usesPtr, usesCount], rfl⟩

theorem uartHandleTxIrq : Statement .uartHandleTxIrq :=
  ⟨_, rfl, by simp [encodeFields, opOnly, formatClean, usesDir, usesTmo, usesAddr, usesByte, usesPtr, usesCount], rfl⟩

theorem uartHandleRxIrq : Statement .uartHandleRxIrq :=
  ⟨_, rfl, by simp [encodeFields, opOnly, formatClean, usesDir, usesTmo, usesAddr, usesByte, usesPtr, usesCount], rfl⟩

theorem i2cInit : Statement .i2cInit :=
  ⟨_, rfl, by simp [encodeFields, opOnly, formatClean, usesDir, usesTmo, usesAddr, usesByte, usesPtr, usesCount], rfl⟩

theorem i2cEnable : Statement .i2cEnable :=
  ⟨_, rfl, by simp [encodeFields, opOnly, formatClean, usesDir, usesTmo, usesAddr, usesByte, usesPtr, usesCount], rfl⟩

theorem i2cDisable : Statement .i2cDisable :=
  ⟨_, rfl, by simp [encodeFields, opOnly, formatClean, usesDir, usesTmo, usesAddr, usesByte, usesPtr, usesCount], rfl⟩

theorem i2cTransfer (dir : Dir) (a : SlaveAddr) (p : BitVec 32) (n : BitVec 16) (tmo : Option (BitVec 16)) : Statement (.i2cTransfer dir a p n tmo) := by
  cases tmo <;> cases dir <;> exact ⟨_, rfl, by simp [encodeFields, withTmo, opOnly, dirBit, formatClean, usesDir, usesTmo, usesAddr, usesByte, usesPtr, usesCount], rfl⟩

theorem i2cSend (a : SlaveAddr) (p : BitVec 32) (n : BitVec 16) (tmo : Option (BitVec 16)) : Statement (.i2cSend a p n tmo) := by
  cases tmo <;> exact ⟨_, rfl, by simp [encodeFields, withTmo, opOnly, formatClean, usesDir, usesTmo, usesAddr, usesByte, usesPtr, usesCount], rfl⟩

theorem i2cReceive (a : SlaveAddr) (p : BitVec 32) (n : BitVec 16) (tmo : Option (BitVec 16)) : Statement (.i2cReceive a p n tmo) := by
  cases tmo <;> exact ⟨_, rfl, by simp [encodeFields, withTmo, opOnly, formatClean, usesDir, usesTmo, usesAddr, usesByte, usesPtr, usesCount], rfl⟩

theorem i2cHandleTxIrq : Statement .i2cHandleTxIrq :=
  ⟨_, rfl, by simp [encodeFields, opOnly, formatClean, usesDir, usesTmo, usesAddr, usesByte, usesPtr, usesCount], rfl⟩

theorem i2cHandleRxIrq : Statement .i2cHandleRxIrq :=
  ⟨_, rfl, by simp [encodeFields, opOnly, formatClean, usesDir, usesTmo, usesAddr, usesByte, usesPtr, usesCount], rfl⟩

theorem dispatch (v : Byte) : Statement (.dispatch v) :=
  ⟨_, rfl, by simp [encodeFields, opOnly, formatClean, usesDir, usesTmo, usesAddr, usesByte, usesPtr, usesCount], rfl⟩

theorem tickIsr : Statement .tickIsr :=
  ⟨_, rfl, by simp [encodeFields, opOnly, formatClean, usesDir, usesTmo, usesAddr, usesByte, usesPtr, usesCount], rfl⟩

end Sys2Proof.Laws.EncodedRow
end

