-- ==== Sys2Proof/Laws/Step.lean ====
section
/-! SUPPORT. What one step of the block can do, said once: whose step it was, and what it answered. -/

namespace Sys2Proof.Machine

/-- The state a step starts from: the same state with the next choice used up. -/
theorem nextChoice_snd (s : State) : (nextChoice s).2 = s.setSched (nextChoice s).2.sched := by
  unfold nextChoice
  split <;> rfl

/-- `Moves` is what `nextChoice` computes. -/
theorem moves_iff (c : Choice) (s t : State) : Moves c s t ↔ s.refused = none ∧ nextChoice s = (c, t) := by
  unfold Moves nextChoice
  cases hs : s.sched.script with
  | nil =>
    simp only [reduceCtorEq, false_and, exists_false, false_or, true_and, Prod.mk.injEq, State.setSched]
    exact and_congr_right fun _ => and_congr_right fun _ => eq_comm
  | cons d ds =>
    simp only [List.cons.injEq, reduceCtorEq, false_and, or_false, Prod.mk.injEq, State.setSched]
    refine and_congr_right fun _ => ⟨?_, ?_⟩
    · rintro ⟨cs, ⟨rfl, rfl⟩, rfl⟩
      exact ⟨rfl, rfl⟩
    · rintro ⟨rfl, rfl⟩
      exact ⟨ds, ⟨rfl, rfl⟩, rfl⟩

/-- A step of an unrefused state is the step of the agent that moves. -/
theorem step_of_moves {c : Choice} {s t : State} (h : Moves c s t) : step s = takeChoice c t := by
  obtain ⟨hr, hn⟩ := (moves_iff c s t).1 h
  simp [step, blockStep, hr, hn]

/-- Everything `step` can answer with a next state. -/
theorem step_cases {s t : State} (h : step s = .next t) :
    ∃ c u, Moves c s u ∧ u = s.setSched u.sched ∧
      (t = u
        ∨ (c = .fg ∧ fgReady u = true ∧ ∃ r, fgInstr u = .error r ∧ t = u.refuse r)
        ∨ (c = .fg ∧ fgReady u = true ∧ ∃ i, fgInstr u = .ok i ∧ exec i u = .next t)
        ∨ (c = .irq ∧ stopped u .irq = false ∧ ∃ i, irqInstr u = some i ∧ exec i u = .next t)
        ∨ (∃ v, c = .enter v ∧ acceptable u v = true ∧ stopped u .irq = false ∧ t = irqEnter v u)
        ∨ envStep c u = some t) := by
  unfold step blockStep at h
  split at h
  · cases h
  rename_i hr
  refine ⟨(nextChoice s).1, (nextChoice s).2, (moves_iff _ _ _).2 ⟨hr, rfl⟩, nextChoice_snd s, ?_⟩
  generalize hu : (nextChoice s).2 = u at h ⊢
  generalize hc : (nextChoice s).1 = c at h ⊢
  unfold takeChoice at h
  split at h
  · unfold fgStep at h
    split at h
    · rename_i hf
      split at h
      · rename_i r hi
        cases h
        exact .inr (.inl ⟨rfl, hf, r, hi, rfl⟩)
      · rename_i i hi
        exact .inr (.inr (.inl ⟨rfl, hf, i, hi, h⟩))
    · cases h; exact .inl rfl
  · unfold irqStep at h
    split at h
    · cases h; exact .inl rfl
    · rename_i hs
      split at h
      · cases h; exact .inl rfl
      · rename_i i hi
        exact .inr (.inr (.inr (.inl ⟨rfl, by simpa using hs, i, hi, h⟩)))
  · rename_i v
    cases h
    unfold enterStep
    split
    · rename_i ha
      simp only [Bool.and_eq_true, Bool.not_eq_true'] at ha
      exact .inr (.inr (.inr (.inr (.inl ⟨v, rfl, ha.1, ha.2, rfl⟩))))
    · exact .inl rfl
  · cases h
    cases he : envStep c u with
    | none => exact .inl rfl
    | some t => exact .inr (.inr (.inr (.inr (.inr rfl))))

end Sys2Proof.Machine
end

