-- ==== Sys2Proof/Tests/Slice0.lean ====
section
/-! SUPPORT. Tests on fixed values: descriptors written out from the layout of R100, the well-formedness checks, one or two
micro-steps of every operation with the results its rule gives, and for every statement with hypotheses a state that meets
them. Expected values come from the rules' own lines and examples, not from the model. -/

namespace Sys2Proof.Tests

open Sys2Proof.Machine

/-! ### Decoding: the words are written from the layout of R100 and the formats of R101 -/

theorem test_decode_swuart :
    decode 0x000000000000000055000011#96 = .ok (.swuPutc 0x55)
    ∧ decode 0x000000000000000000000012#96 = .ok .swuGetc := by decide

theorem test_decode_status :
    decode 0x000000000000000000000013#96 = .ok .swuStatusRead
    ∧ decode 0x000000000000000000000014#96 = .ok .swuStatusClear
    ∧ decode 0x000000000000000000000027#96 = .ok .uartStatusRead
    ∧ decode 0x000000000000000000000028#96 = .ok .uartStatusClear := by decide

theorem test_decode_uart_setup :
    decode 0x000000000000000000000020#96 = .ok .uartInit
    ∧ decode 0x000000000000000000000021#96 = .ok .uartEnable
    ∧ decode 0x000000000000000000000022#96 = .ok .uartDisable := by decide

theorem test_decode_uart_transfers :
    decode 0x000A00030000020000000223#96 = .ok (.uartTransfer 0x200 3 (some 10))
    ∧ decode 0x000000030000020000000023#96 = .ok (.uartTransfer 0x200 3 none)
    ∧ decode 0x000000000000000041000024#96 = .ok (.uartPutc 0x41 none)
    ∧ decode 0x000500000000000041000224#96 = .ok (.uartPutc 0x41 (some 5))
    ∧ decode 0x000100000000FFFF00000225#96 = .ok (.uartPuts 0xFFFF (some 1))
    ∧ decode 0x000500000000000000000226#96 = .ok (.uartGetc (some 5))
    ∧ decode 0x000000000000000000000226#96 = .ok (.uartGetc (some 0)) := by decide

theorem test_decode_i2c_setup :
    decode 0x000000000000000000000030#96 = .ok .i2cInit
    ∧ decode 0x000000000000000000000031#96 = .ok .i2cEnable
    ∧ decode 0x000000000000000000000032#96 = .ok .i2cDisable := by decide

theorem test_decode_i2c_transfers :
    decode 0x000000020000030000480033#96 = .ok (.i2cTransfer .recv 0x48 0x300 2 none)
    ∧ decode 0x000000020000030000480133#96 = .ok (.i2cTransfer .send 0x48 0x300 2 none)
    ∧ decode 0x001400010000030000480333#96 = .ok (.i2cTransfer .send 0x48 0x300 1 (some 20))
    ∧ decode 0x000000020000030000480034#96 = .ok (.i2cSend 0x48 0x300 2 none)
    ∧ decode 0xFFFF000112345678007F0235#96 = .ok (.i2cReceive 0x7F 0x12345678 1 (some 0xFFFF)) := by decide

theorem test_decode_interrupt :
    decode 0x00000000000000000000002E#96 = .ok .uartHandleTxIrq
    ∧ decode 0x00000000000000000000002F#96 = .ok .uartHandleRxIrq
    ∧ decode 0x00000000000000000000003E#96 = .ok .i2cHandleTxIrq
    ∧ decode 0x00000000000000000000003F#96 = .ok .i2cHandleRxIrq
    ∧ decode 0x000000000000000001000040#96 = .ok (.dispatch 1)
    ∧ decode 0x000000000000000000000041#96 = .ok .tickIsr := by decide

/-- R105: an unlisted opcode. -/
theorem test_decode_unassigned :
    decode 0x000000000000000000000010#96 = .error .unassignedOpcode
    ∧ decode 0x000000000000000000000000#96 = .error .unassignedOpcode
    ∧ decode 0x0000000000000000000000FF#96 = .error .unassignedOpcode := by decide

/-- R105: a reserved bit (15, 23), an unused `dir`, `tp`, `byte`, `ptr`, `n`, `addr7`, and a `tmo` with `tp = 0`. -/
theorem test_decode_reserved :
    decode 0x000000000000000000008012#96 = .error .reservedField
    ∧ decode 0x000000000000000000800033#96 = .error .reservedField
    ∧ decode 0x000000020000030000480134#96 = .error .reservedField
    ∧ decode 0x000000000000000055000211#96 = .error .reservedField
    ∧ decode 0x000000000000000001000012#96 = .error .reservedField
    ∧ decode 0x000000000000000100000026#96 = .error .reservedField
    ∧ decode 0x000000010000020000000025#96 = .error .reservedField
    ∧ decode 0x000000030000020000480023#96 = .error .reservedField
    ∧ decode 0x000100000000000000000026#96 = .error .reservedField := by decide

theorem test_decodeTableWord :
    decodeTableWord 96 0x55000011 = some (.swuPutc 0x55) ∧ decodeTableWord 96 0x10 = none := by decide

/-! ### Well-formedness: an ill-formed term for each check of R102 -/

theorem test_ptr_out_of_range :
    ¬ (Instr.uartTransfer 0x10000 1 none).WellFormed Params.vectors
    ∧ (Instr.uartTransfer 0xFFFF 1 none).WellFormed Params.vectors
    ∧ ¬ (Instr.uartPuts 0x10000 none).WellFormed Params.vectors
    ∧ ¬ (Instr.i2cTransfer .send 0 0x10000 1 none).WellFormed Params.vectors
    ∧ ¬ (Instr.i2cSend 0 0x10000 1 none).WellFormed Params.vectors
    ∧ ¬ (Instr.i2cReceive 0 0x10000 1 none).WellFormed Params.vectors := by decide

/-- A configuration with 8-bit counts and timeouts, so that those checks can fail. -/
def narrow : Params := { Params.vectors with countW := 8, tmoW := 8 }

theorem test_count_out_of_range :
    ¬ (Instr.uartTransfer 0 256 none).WellFormed narrow ∧ (Instr.uartTransfer 0 255 none).WellFormed narrow
    ∧ ¬ (Instr.i2cTransfer .recv 0 0 256 none).WellFormed narrow
    ∧ ¬ (Instr.i2cSend 0 0 256 none).WellFormed narrow ∧ ¬ (Instr.i2cReceive 0 0 256 none).WellFormed narrow := by
  decide

theorem test_timeout_out_of_range :
    ¬ (Instr.uartTransfer 0 1 (some 256)).WellFormed narrow ∧ ¬ (Instr.uartPutc 0 (some 256)).WellFormed narrow
    ∧ ¬ (Instr.uartPuts 0 (some 256)).WellFormed narrow ∧ ¬ (Instr.uartGetc (some 256)).WellFormed narrow
    ∧ (Instr.uartGetc (some 255)).WellFormed narrow ∧ ¬ (Instr.i2cTransfer .recv 0 0 1 (some 256)).WellFormed narrow
    ∧ ¬ (Instr.i2cSend 0 0 1 (some 256)).WellFormed narrow
    ∧ ¬ (Instr.i2cReceive 0 0 1 (some 256)).WellFormed narrow := by decide

theorem test_vector_out_of_range :
    (Instr.dispatch 0).WellFormed Params.vectors ∧ ¬ (Instr.dispatch 1).WellFormed Params.vectors
    ∧ (Instr.dispatch 1).WellFormed { Params.vectors with vectorMap := .splitTxRx }
    ∧ ¬ (Instr.dispatch 2).WellFormed { Params.vectors with vectorMap := .splitTxRx } := by decide

/-! ### Small states -/

/-- The state a next outcome holds. -/
def nextOf : Host.Outcome State Fault Refusal → Option State
  | .next s => some s
  | .fault _ => none
  | .refused _ => none

/-- A released UART engine with both flags raised, an empty transmitter and a received byte. -/
def liveUart : UartEngine :=
  { UartEngine.reset with
    swrst := .written false, clksel := .written 0, txIe := .written true, rxIe := .written true,
    txReady := .written true, rxReady := .written true, rxbuf := .written 0x5A, txregFull := .written false,
    shifterFull := .written false, live := true }

/-- A released I2C engine with every flag raised, an empty transmitter and a received byte, idle. -/
def liveI2c : I2cEngine :=
  { I2cEngine.reset with
    swrst := .written false, clksel := .written 1, txIe := .written true, rxIe := .written true,
    nackIe := .written true, sa := .written 0x48, dirTx := .written true, startReq := .written false,
    stopReq := .written false, txReady := .written true, rxReady := .written true, rxbuf := .written 0xA5,
    nack := .written true, busBusy := .written false, estate := .written .idle, txregFull := .written false,
    shifterFull := .written false, live := true }

/-- Reset with both engines live, some bytes in memory, and the software UART's locals written. -/
def lively : State :=
  { State.reset with
    ueng := liveUart, ieng := liveI2c, mem := [(0x200, 0x48), (0x201, 0x69), (0x300, 0xA5)],
    swu := { State.reset.swu with dl := .written 1104, sh := .written 0x55, acc := .written 0x05, i := .written 3 } }

/-- The foreground standing at a label. -/
def fgAt (l : Label) : State := lively.goto l

/-- The interrupt context inside the module vector, standing at a label. -/
def irqAt (l : IrqLabel) : State :=
  (lively.setCpu { asleep := false, gie := false, ctx := .irq .vm 0 false, saved := .written true }).irqGoto l

/-- A state that gives the next step to `c`. -/
def scripted (c : Choice) (s : State) : State := s.setSched { s.sched with script := [c] }

/-! ### One micro-step at a time: the value its rule's line gives -/

/-- R154 P4: the start of the example, `0x55` drives its low bit, 1, and shifts. -/
theorem test_swuPutc :
    (nextOf (exec (.swuPutc 0x55) (fgAt .l4))).map (fun t => (t.line.tx, t.swu.sh, t.trace, t.fg.label)) =
      some (true, .written 0x2A, [.txLine 0 true], .l5) := by decide

/-- R154 P2: the deadline is one bit time, 104, on. -/
theorem test_swuPutc_deadline :
    (nextOf (exec (.swuPutc 0x55) (fgAt .l2))).map (fun t => (t.swu.dl, t.swu.i)) =
      some (.written 1208, .written 0) := by decide

/-- R157 G5: bit 3 of the byte. -/
theorem test_swuGetc :
    (nextOf (exec .swuGetc (fgAt .l5))).map (fun t => (t.swu.acc, t.swu.i, t.fg.s)) =
      some (.written 0x0D, .written 4, true) := by decide

/-- R157 G9: a low stop sample sets the framing error. -/
theorem test_swuGetc_framing :
    (nextOf (exec .swuGetc ((fgAt .l9).setLine ⟨true, false⟩))).map (fun t => (t.swu.framingError, t.fg.label)) =
      some (true, .l10) := by decide

/-- R133: `0x03` after a frame with a low stop sample. -/
theorem test_swuStatusRead :
    (nextOf (exec .swuStatusRead ((fgAt .l0).setSwu { lively.swu with framingError := true, rxAvailable := true }))).map
      (fun t => (t.fg.ret, t.fg.k)) = some (.written 0x03, 1) := by decide

theorem test_swuStatusClear :
    (nextOf (exec .swuStatusClear ((fgAt .l0).setSwu { lively.swu with framingError := true, rxAvailable := true }))).map
      (fun t => (t.swu.framingError, t.swu.rxAvailable)) = some (false, false) := by decide

/-- R135: `0x01` after a `UART_GETC` that received a byte. -/
theorem test_uartStatusRead :
    (nextOf (exec .uartStatusRead ((fgAt .l0).setUart { lively.uart with rxAvailable := true }))).map
      (fun t => t.fg.ret) = some (.written 0x01) := by decide

theorem test_uartStatusClear :
    (nextOf (exec .uartStatusClear ((fgAt .l0).setUart { lively.uart with rxAvailable := true }))).map
      (fun t => (t.uart.framingError, t.uart.rxAvailable, t.fg.k)) = some (false, false, 1) := by decide

/-- R182: the example's divisor for 1 MHz and 9600, and the release of R271. -/
theorem test_uartInit :
    (nextOf (exec .uartInit (fgAt .l2))).map (fun t => t.ueng.brDiv) = some (.written 104)
    ∧ (nextOf (exec .uartInit ((fgAt .l6).setUeng { UartEngine.reset with swrst := .written true }))).map
        (fun t => (t.ueng.swrst, t.ueng.txReady, t.ueng.rxReady, t.ueng.live)) =
      some (.written false, .written true, .written false, true) := by decide

/-- R188, R189: from one claim to two, and to none. -/
theorem test_uartEnable :
    (nextOf (exec .uartEnable ((fgAt .l0).setClaims [1]))).map (fun t => t.claims) = some [2] := by decide

theorem test_uartDisable :
    (nextOf (exec .uartDisable ((fgAt .l0).setClaims [1]))).map (fun t => t.claims) = some [0]
    ∧ (nextOf (exec .uartDisable (fgAt .l0))).map (fun t => t.fault) =
        some [⟨.releaseUnderflow, .fg, .fg 0 .l0⟩] := by decide

/-- R185 X4: the example's first byte is the seed; X0: a transfer of nothing is refused. -/
theorem test_uartTransfer :
    (nextOf (exec (.uartTransfer 0x200 2 none) (fgAt .l4))).map (fun t => (t.ueng.txreg, t.ueng.txReady, t.fg.label)) =
      some (.written 0x48, .written false, .w0)
    ∧ (nextOf (exec (.uartTransfer 0x200 0 none) (fgAt .l0))).map (fun t => t.refused) = some (some .emptyTransfer) := by
  decide

/-- R364: before the driver's init. -/
theorem test_uartTransfer_refused :
    (nextOf (exec (.uartTransfer 0x200 2 none) State.reset)).map (fun t => t.refused) =
      some (some .notInitialised) := by decide

/-- R186 C3: the seed is the operand. -/
theorem test_uartPutc :
    (nextOf (exec (.uartPutc 0x41 none) (fgAt .l3))).map (fun t => (t.ueng.txreg, t.fg.label)) =
      some (.written 0x41, .w0) := by decide

/-- R187 S2: a string that reaches the last address of the space without a zero is refused. -/
theorem test_uartPuts :
    (nextOf (exec (.uartPuts 0xFFFF none) ((fgAt .l2).setFg { (fgAt .l2).fg with b := 1 }))).map (fun t => t.refused) =
      some (some .bufferWraps)
    ∧ (nextOf (exec (.uartPuts 0xFFFE none) ((fgAt .l2).setFg { (fgAt .l2).fg with b := 1 }))).map
        (fun t => (t.refused, t.fg.len, t.fg.label)) = some (none, 1, .l1) := by decide

/-- R194 G3: a byte that landed makes the flag true. -/
theorem test_uartGetc :
    (nextOf (exec (.uartGetc (some 5)) ((fgAt .l3).setUart { lively.uart with rxCount := 1 }))).map
      (fun t => t.uart.rxAvailable) = some true := by decide

/-- R130 W0 and W1: a guard of 0 ticks is expired at once, and the test reads it. -/
theorem test_wait :
    (nextOf (exec (.uartGetc (some 0)) (fgAt .w0))).map (fun t => t.tg) = some ⟨true, 0, true⟩
    ∧ (nextOf (exec (.uartGetc (some 0)) ((fgAt .w1).setTg ⟨true, 0, true⟩))).map (fun t => t.fg.c) = some true := by
  decide

/-- R192 T3: the example's feed; T1: the last one. -/
theorem test_uartHandleTxIrq :
    (nextOf (exec .uartHandleTxIrq ((irqAt .t3).setUart { lively.uart with txCount := 1, txCursor := 0x201 }))).map
      (fun t => (t.ueng.txreg, t.irq.label)) = some (.written 0x69, .t4)
    ∧ (nextOf (exec .uartHandleTxIrq ((irqAt .t1).setUart { lively.uart with txCount := 1 }))).map
        (fun t => t.uart.txCount) = some 0 := by decide

/-- R193 Q1: the example's byte, and the flag falls. -/
theorem test_uartHandleRxIrq :
    (nextOf (exec .uartHandleRxIrq (irqAt .q1))).map (fun t => (t.uart.rxByte, t.ueng.rxReady)) =
      some (0x5A, .written false) := by decide

/-- R221: the example's prescaler, and the release of R280. -/
theorem test_i2cInit :
    (nextOf (exec .i2cInit (fgAt .l3))).map (fun t => t.ieng.presc) = some (.written 10)
    ∧ (nextOf (exec .i2cInit ((fgAt .l4).setIeng { I2cEngine.reset with swrst := .written true }))).map
        (fun t => (t.ieng.estate, t.ieng.busBusy, t.ieng.live)) = some (.written .idle, .written false, true) := by decide

theorem test_i2cEnable :
    (nextOf (exec .i2cEnable (fgAt .l0))).map (fun t => t.claims) = some [0, 1] := by decide

theorem test_i2cDisable :
    (nextOf (exec .i2cDisable ((fgAt .l0).setClaims [0, 1]))).map (fun t => t.claims) = some [0, 0] := by decide

/-- R224 X9 and X0: the single-byte branch, and a receive of nothing. -/
theorem test_i2cTransfer :
    (nextOf (exec (.i2cTransfer .recv 0x48 0x300 1 none) (fgAt .l9))).map (fun t => t.fg.label) = some .l10
    ∧ (nextOf (exec (.i2cTransfer .recv 0x48 0x300 0 none) (fgAt .l0))).map (fun t => t.refused) =
        some (some .emptyTransfer) := by decide

/-- R227: a send of nothing is an address-only write. -/
theorem test_i2cSend :
    (nextOf (exec (.i2cSend 0x48 0x300 0 none) (fgAt .l0))).map (fun t => (t.refused, t.fg.label)) = some (none, .l1)
    ∧ (nextOf (exec (.i2cSend 0x48 0x300 2 none) (fgAt .l2))).map (fun t => t.ieng.dirTx) = some (.written true) := by
  decide

/-- R228: two bytes take no single-byte branch, and the direction is receive. -/
theorem test_i2cReceive :
    (nextOf (exec (.i2cReceive 0x48 0x300 2 none) (fgAt .l9))).map (fun t => t.fg.label) = some .w0
    ∧ (nextOf (exec (.i2cReceive 0x48 0x300 2 none) (fgAt .l2))).map (fun t => t.ieng.dirTx) =
        some (.written false) := by decide

/-- R230 T2 and T5. -/
theorem test_i2cHandleTxIrq :
    (nextOf (exec .i2cHandleTxIrq ((irqAt .t2).setI2c { lively.i2c with count := 1, cursor := 0x300 }))).map
      (fun t => (t.ieng.txreg, t.irq.label)) = some (.written 0xA5, .t3)
    ∧ (nextOf (exec .i2cHandleTxIrq (irqAt .t5))).map (fun t => t.ieng.stopReq) = some (.written true) := by decide

/-- R232 Q1: STOP at the count of 2; Q4: the example's byte at its address. -/
theorem test_i2cHandleRxIrq :
    (nextOf (exec .i2cHandleRxIrq ((irqAt .q1).setI2c { lively.i2c with count := 2 }))).map (fun t => t.ieng.stopReq) =
      some (.written true)
    ∧ (nextOf (exec .i2cHandleRxIrq (((irqAt .q4).setI2c { lively.i2c with count := 2, cursor := 0x301 }).setIrq
        { label := .q4, wh := false, r := 0xA5 }))).map (fun t => memGet t.mem 0x301) = some 0xA5 := by decide

/-- R330 D2: a wake request is kept; D0 at the end of the order. -/
theorem test_dispatch :
    (nextOf (exec (.dispatch 0) ((irqAt .d2).setIrq { label := .d2, wh := true, r := 0 }))).map (fun t => t.cpu.ctx) =
      some (.irq .vm 1 true)
    ∧ (nextOf (exec (.dispatch 0) ((irqAt .d0).setCpu { (irqAt .d0).cpu with ctx := .irq .vm 4 true }))).map
        (fun t => t.irq.label) = some .d3 := by decide

/-- R340 K1: the example's last tick; K2: it wakes the sleeper. -/
theorem test_tickIsr :
    (nextOf (exec .tickIsr ((irqAt .k1).setTg ⟨true, 1, false⟩))).map (fun t => (t.tg, t.irq.wh)) =
      some (⟨true, 0, true⟩, true)
    ∧ (nextOf (exec .tickIsr ((irqAt .k2).setIrq { label := .k2, wh := true, r := 0 }))).map
        (fun t => (t.cpu.asleep, t.cpu.gie, t.cpu.ctx)) = some (false, true, .fg) := by decide

/-- The first step after reset runs the word that is placed there: an operation of each context, and a refused word. -/
theorem test_withFetchWord :
    (nextOf (step (State.reset.withFetchWord 96 0x55000011))).map (fun t => (t.swu.sh, t.fg.label)) =
      some (.written 0x55, .l1)
    ∧ (nextOf (step (State.reset.withFetchWord 96 0x41))).map (fun t => (t.irq.label, t.cpu.ctx)) =
      some (.k1, .irq .vt 0 false)
    ∧ (nextOf (step (State.reset.withFetchWord 96 0x10))).map (fun t => t.refused) =
      some (some .unassignedOpcode) := by decide

/-! ### Witnesses: for every statement with hypotheses, states and operands that meet them, clause by clause.

A clause whose only hypothesis on the state is the label it stands at is met by `fgAt` or `irqAt` of that label. -/

theorem witness_foreground_labels : ∀ l, (fgAt l).fg.label = l := fun _ => rfl

theorem witness_interrupt_labels : ∀ l, (irqAt l).irq.label = l := fun _ => rfl

/-- The state that a scripted step starts from. -/
theorem moves_scripted (c : Choice) (s : State) (h : s.refused = none) :
    Moves c (scripted c s) (s.setSched { s.sched with script := [] }) := ⟨h, .inl ⟨[], rfl, rfl⟩⟩

theorem witness_EncodeOfDecode : decode 0x000000000000000055000011#96 = .ok (.swuPutc 0x55) := by decide

theorem witness_DecodeFollowsTheTable :
    selects 0x000A00030000020000000223#96 (tableRow (.uartTransfer 0 0 none))
    ∧ (0x000000000000000000000010#96 : Desc).extractLsb' 0 8 ∉ opcodes
    ∧ (0x000000000000000000008012#96 : Desc).extractLsb' 0 8 ∈ opcodes
    ∧ ∀ i, ¬ selects 0x000000000000000000008012#96 (tableRow i) := by
  refine ⟨⟨by decide, by decide⟩, by decide, by decide, ?_⟩
  intro i h
  cases i <;> exact absurd h.1 (by simp only [tableRow]; decide)

/-- Reset with one descriptor in the operation list. -/
def withProgram (d : Desc) : State := { State.reset with fg := { State.reset.fg with prog := [d] } }

theorem witness_OperandsOfTheDescriptor :
    (∀ d, (withProgram d).fg.prog[(withProgram d).fg.k]? = some d)
    ∧ decode 0x000A00030000FFFF00000223#96 = .ok (.uartTransfer 0xFFFF 3 (some 10))
    ∧ fgInstr (withProgram 0x000A00030000FFFF00000223#96) = .ok (.uartTransfer 0xFFFF 3 (some 10))
    ∧ decode 0x000A00030001000000000223#96 = .ok (.uartTransfer 0x10000 3 (some 10))
    ∧ fgInstr (withProgram 0x000A00030001000000000223#96) = .error .fieldRange
    ∧ decode 0x000000000000000001000040#96 = .ok (.dispatch 1)
    ∧ fgInstr (withProgram 0x000000000000000001000040#96) = .error .fieldRange
    ∧ fgInstr (withProgram 0x000000000000000000000040#96) = .error .handlerInForeground :=
  ⟨fun _ => rfl, by decide, by decide, by decide, by decide, by decide, by decide, by decide⟩

theorem noVector (d : Desc) : ∀ v, acceptable (withProgram d) v = false := by
  intro v
  cases v <;> rfl

theorem witness_StepRunsTheForegroundOperation :
    let t := withProgram 0x000000000000000055000011#96
    Moves .fg (scripted .fg t) t ∧ t.cpu.ctx = .fg ∧ t.cpu.asleep = false ∧ (∀ v, acceptable t v = false)
    ∧ ¬ Faulted .fg t ∧ t.fg.prog[t.fg.k]? = some 0x000000000000000055000011#96
    ∧ decode 0x000000000000000055000011#96 = .ok (.swuPutc 0x55) ∧ (Instr.swuPutc 0x55).WellFormed t.cfg
    ∧ issuer (.swuPutc 0x55) = .fg :=
  ⟨⟨rfl, .inl ⟨[], rfl, rfl⟩⟩, rfl, rfl, noVector _, by simp [Faulted, withProgram, State.reset, State.launch], rfl, by decide,
    by decide, rfl⟩

/-- The interrupt context at a place of a body. -/
def inBody (v : Vec) (j : Nat) (l : IrqLabel) : State :=
  (lively.setCpu { asleep := false, gie := false, ctx := .irq v j false, saved := .written true }).irqGoto l

theorem witness_StepRunsTheInterruptOperation :
    (∀ v j l, Moves .irq (scripted .irq (inBody v j l)) (inBody v j l) ∧ ¬ Faulted .irq (inBody v j l)
      ∧ (inBody v j l).cpu.ctx = .irq v j false ∧ (inBody v j l).irq.label = l)
    ∧ IrqLabel.d3 ∈ [IrqLabel.d0, .d2, .d3]
    ∧ ((inBody .vm 3 .q9).cfg.dispatchOrder .vm)[3]? = some .i2cRx ∧ IrqLabel.q9 ∈ handlerLines .i2cRx :=
  ⟨fun v j l => ⟨⟨rfl, .inl ⟨[], rfl, rfl⟩⟩, by simp [Faulted, inBody, lively, State.reset, State.launch, State.setCpu, State.irqGoto], rfl, rfl⟩,
    by decide, by decide, by decide⟩

theorem witness_IllFormedDescriptorsAreRefused :
    (∀ d, Moves .fg (scripted .fg (withProgram d)) (withProgram d) ∧ (withProgram d).cpu.ctx = .fg
      ∧ (withProgram d).cpu.asleep = false ∧ (∀ v, acceptable (withProgram d) v = false)
      ∧ ¬ Faulted .fg (withProgram d) ∧ (withProgram d).fg.prog[(withProgram d).fg.k]? = some d)
    ∧ (0x000000000000000000000010#96 : Desc).extractLsb' 0 8 ∉ opcodes
    ∧ ((0x000000000000000000008012#96 : Desc).extractLsb' 0 8 ∈ opcodes
      ∧ ∀ i, ¬ selects 0x000000000000000000008012#96 (tableRow i))
    ∧ (decode 0x000000000001000000000025#96 = .ok (.uartPuts 0x10000 none)
      ∧ ¬ (Instr.uartPuts 0x10000 none).WellFormed Params.vectors)
    ∧ (decode 0x000000000000000000000041#96 = .ok .tickIsr ∧ Instr.tickIsr.WellFormed Params.vectors
      ∧ issuer .tickIsr = .irq) :=
  ⟨fun d => ⟨⟨rfl, .inl ⟨[], rfl, rfl⟩⟩, rfl, rfl, noVector d,
      by simp [Faulted, withProgram, State.reset, State.launch], rfl⟩,
    by decide, witness_DecodeFollowsTheTable.2.2, ⟨by decide, by decide⟩, ⟨by decide, by decide, rfl⟩⟩

/-- A state with a fault of one agent. -/
def faulted (a : Agent) : State := lively.raise a .unwrittenRead

theorem witness_WhoHasNoStep :
    (State.reset.refuse .config).refused = some .config ∧ State.reset.refused = none
    ∧ (∀ c s, s.refused = none → ∃ t, Moves c (scripted c s) t)
    ∧ (irqAt .d0).cpu.ctx ≠ .fg ∧ (lively.setCpu { lively.cpu with asleep := true }).cpu.asleep = true
    ∧ acceptable lively .vm = true ∧ State.reset.fg.prog.length ≤ State.reset.fg.k
    ∧ lively.cpu.ctx = .fg ∧ acceptable State.reset .vt = false
    ∧ (∀ a, Faulted a (faulted a)) :=
  ⟨rfl, rfl, fun c s h => ⟨_, moves_scripted c s h⟩, by decide, by decide, by decide, by decide, by decide, by decide,
    fun a => ⟨_, List.mem_append_right _ (List.mem_singleton.2 rfl), rfl⟩⟩

theorem witness_InterruptEntry :
    (Moves (.enter .vm) (scripted (.enter .vm) lively) lively ∧ ¬ Faulted .irq lively ∧ lively.cpu.ctx = .fg
      ∧ lively.cpu.gie = true ∧ req lively .vm = true)
    ∧ req (lively.setTickPending true) .vt = true ∧ (lively.setTickPending true).cpu.gie = true :=
  ⟨⟨⟨rfl, .inl ⟨[], rfl, rfl⟩⟩, by simp [Faulted, lively, State.reset, State.launch], rfl, rfl, by decide⟩,
    by decide, by decide⟩

theorem witness_DispatchLines :
    (∀ v j l, (inBody v j l).cpu.ctx = .irq v j false) ∧ vecOf Params.vectors 0 = some .vm
    ∧ ((inBody .vm 4 .d0).irq.label = .d0 ∧ ((inBody .vm 4 .d0).cfg.dispatchOrder .vm).length ≤ 4)
    ∧ ((inBody .vm 3 .d0).cfg.dispatchOrder .vm)[3]? = some .i2cRx
    ∧ (inBody .vm 0 .d2).irq.label = .d2
    ∧ ((inBody .vm 4 .d3).irq.label = .d3 ∧ (inBody .vm 4 .d3).cpu.saved = .written true) :=
  ⟨fun _ _ _ => rfl, by decide, by decide, by decide, by decide, by decide⟩

/-- The handlers answer 0, 1, 0, 0, as in the example of R330. -/
theorem witness_DispatchWakesIfAnyHandlerAsks :
    let r := fun k : Nat => k == 1
    let ctx := fun k => Ctx.irq .vm k (decide (2 ≤ k))
    Params.vectors.shortCircuit = false ∧ ctx 0 = .irq .vm 0 false ∧ vecOf Params.vectors 0 = some .vm
    ∧ (∀ k, k < (Params.vectors.dispatchOrder .vm).length → ∃ s t, s.cfg = Params.vectors ∧ s.cpu.ctx = ctx k
        ∧ s.irq.label = .d2 ∧ s.irq.wh = r k ∧ exec (.dispatch 0) s = .next t ∧ ctx (k + 1) = t.cpu.ctx) := by
  refine ⟨rfl, rfl, by decide, ?_⟩
  intro k hk
  refine ⟨((inBody .vm k .d2).setCpu { lively.cpu with ctx := .irq .vm k (decide (2 ≤ k)) }).setIrq
    { label := .d2, wh := k == 1, r := 0 }, _, rfl, rfl, rfl, rfl, rfl, ?_⟩
  have : k < 4 := hk
  interval_cases k <;> rfl

theorem witness_TickIsrLines :
    (irqAt .k0).irq.label = .k0
    ∧ (((irqAt .k1).setTg ⟨true, 1, false⟩).irq.label = .k1 ∧ ((irqAt .k1).setTg ⟨true, 1, false⟩).tg = ⟨true, 1, false⟩)
    ∧ ((irqAt .k1).setTg ⟨true, 0, true⟩).tg = ⟨true, 0, true⟩ ∧ (irqAt .k1).tg.armed = false
    ∧ (irqAt .k2).cpu.saved = .written true := by decide

theorem contextInv_inBody : ContextInv (inBody .vm 0 .t0) := by
  refine ⟨fun _ => ⟨rfl, rfl, by simp [Reg.Written, inBody, State.setCpu, State.irqGoto]⟩, ?_⟩
  intro v j w h
  cases h
  exact ⟨by decide, .inr ⟨.uartTx, by decide, .inr (by decide)⟩⟩

theorem witness_NoNesting : ContextInv (inBody .vm 0 .t0) ∧ (inBody .vm 0 .t0).cpu.ctx ≠ .fg
    ∧ Moves (.enter .vt) (scripted (.enter .vt) (inBody .vm 0 .t0)) (inBody .vm 0 .t0) :=
  ⟨contextInv_inBody, by decide, ⟨rfl, .inl ⟨[], rfl, rfl⟩⟩⟩

theorem witness_ClockOperations :
    (fgAt .l0).fg.label = .l0 ∧ (Instr.uartEnable, (0 : ClockId)) = (.uartEnable, (fgAt .l0).cfg.clkA)
    ∧ (Instr.i2cEnable, (1 : ClockId)) = (.i2cEnable, (fgAt .l0).cfg.clkB)
    ∧ ((fgAt .l0).cfg.claimKind = .counter ∧ claimCount (fgAt .l0).claims 0 = 0)
    ∧ 0 < claimCount ((fgAt .l0).setClaims [1]).claims 0 := by decide

theorem witness_StatusOperations : (fgAt .l0).fg.label = .l0 := rfl

/-- The fields of a state under the protected wait. -/
def atomicAt (l : Label) : State := { fgAt l with cfg := { Params.vectors with waitAtomic := true } }

theorem witness_WaitLines :
    waitOf (fgAt .w0) (.uartGetc (some 0)) = some (false, some 0, .l3)
    ∧ waitOf (fgAt .w0) (.i2cSend 0 0 0 none) = some (false, none, .l13)
    ∧ ((fgAt .w1).fg.label = .w1 ∧ (fgAt .w1).cfg.waitAtomic = false)
    ∧ ((atomicAt .w1).cfg.waitAtomic = true ∧ ((atomicAt .w1).uart.rxCount == 1 || (some 5).isSome && (atomicAt .w1).tg.expired) = false)
    ∧ (((atomicAt .w1).setTg ⟨true, 0, true⟩).cfg.waitAtomic = true
      ∧ ((some 5).isSome && ((atomicAt .w1).setTg ⟨true, 0, true⟩).tg.expired) = true)
    ∧ ((fgAt .w4).setCpu { lively.cpu with asleep := true }).cpu.asleep = true
    ∧ ((fgAt .w4).fg.label = .w4 ∧ (fgAt .w4).cpu.asleep = false) := by decide

theorem witness_WaitReturnsOrSleeps :
    (fgAt .w0).fg.label = .w0
    ∧ waitOf (fgAt .w0) (.uartPutc 0 (some 0)) = some (false, some 0, .l5)
    ∧ waitOf ((fgAt .w0).setUart { lively.uart with txDone := true }) (.uartPutc 0 none) = some (true, none, .l5)
    ∧ waitOf (fgAt .w0) (.uartPutc 0 (some 1)) = some (false, some 1, .l5) ∧ (some 1 : Option Nat) ≠ some 0 := by decide

/-- A guard of one tick, over the ticks that follow it. -/
def tickRun : Nat → State
  | 0 => (irqAt .k2).setTg ⟨true, 1, false⟩
  | 1 => ((irqAt .k2).setTg ⟨true, 0, true⟩).setIrq { label := .k2, wh := true, r := 0 }
  | _ + 2 => ((irqAt .k2).setTg ⟨true, 0, true⟩).setIrq { label := .k2, wh := false, r := 0 }

theorem witness_TimeoutBoundary :
    1 ≤ 1 ∧ (tickRun 0).tg = { armed := true, count := 1, expired := false }
    ∧ ∀ k, ∃ s, s.tg = (tickRun k).tg ∧ s.cfg.tickWake = .onExpiry ∧ s.irq.label = .k1
      ∧ exec .tickIsr s = .next (tickRun (k + 1)) :=
  ⟨le_rfl, rfl, fun k => ⟨(irqAt .k1).setTg (tickRun k).tg, rfl, rfl, rfl, by
    match k with
    | 0 => rfl
    | 1 => rfl
    | _ + 2 => rfl⟩⟩

/-- The counter one before, and at, the deadline 1104 of `lively`. -/
theorem witness_SwuPutcLines :
    (fgAt .l3).swu.dl = .written 1104 ∧ (fgAt .l4).swu.sh = .written 0x55 ∧ (fgAt .l7).swu.i = .written 3
    ∧ ((fgAt .l7).setSwu { lively.swu with i := .written 8 }).swu.i = .written 8
    ∧ reached (fgAt .l3).cfg ((fgAt .l3).setCtr 1103).ctr 1104 = false
    ∧ reached (fgAt .l3).cfg ((fgAt .l3).setCtr 1104).ctr 1104 = true ∧ Label.l10 ∈ [Label.l3, .l6, .l10] := by decide

theorem witness_SwuGetcLines :
    (fgAt .l0).line.rx = true ∧ ((fgAt .l0).setLine ⟨true, false⟩).line.rx = false
    ∧ (fgAt .l2).swu.dl = .written 1104 ∧ reached (fgAt .l2).cfg ((fgAt .l2).setCtr 1103).ctr 1104 = false
    ∧ reached (fgAt .l2).cfg ((fgAt .l2).setCtr 1104).ctr 1104 = true ∧ Label.l8 ∈ [Label.l2, .l4, .l8]
    ∧ (fgAt .l5).swu.acc = .written 0x05 ∧ (fgAt .l6).swu.i = .written 3 := by decide

theorem witness_DeadlineReached :
    (0 < 2 ^ Params.vectors.ctrW ∧ 65535 < 2 ^ Params.vectors.ctrW) ∧ Params.vectors.ctrCompare = .wrapAware
    ∧ ({ Params.vectors with ctrCompare := .unsignedGe } : Params).ctrCompare = .unsignedGe
    ∧ ({ Params.vectors with ctrCompare := .equal } : Params).ctrCompare = .equal := by decide

theorem witness_PutcWaveform :
    (fgAt .l0).fg.label = .l0 ∧ (fgAt .l0).cfg.ctrCompare = .wrapAware ∧ 2 ≤ (fgAt .l0).cfg.ctrW
    ∧ 0 < (fgAt .l0).cfg.bitTime ∧ (fgAt .l0).cfg.bitTime < 2 ^ ((fgAt .l0).cfg.ctrW - 1)
    ∧ ((fgAt .l0).setCtr 65535).ctr < 2 ^ (fgAt .l0).cfg.ctrW := by decide

theorem witness_GetcSamples :
    let s := (fgAt .l0).setLine ⟨true, false⟩
    104 = s.cfg.fSw / s.cfg.sSw ∧ 52 = (match s.cfg.startDelay with | .halfBit => 104 / 2 | .wholeBit => 104)
    ∧ s.fg.label = .l0 ∧ s.cfg.ctrCompare = .wrapAware ∧ 2 ≤ s.cfg.ctrW ∧ 104 < 2 ^ (s.cfg.ctrW - 1)
    ∧ 52 < 2 ^ (s.cfg.ctrW - 1) ∧ s.ctr < 2 ^ s.cfg.ctrW ∧ s.line.rx = false := by decide

/-- The two values of SW_RX_START_DELAY at a bit time of 104 (95_test_vectors.md sections 0 and 2.1). -/
theorem test_rxStartDelay :
    Params.vectors.bitTime = 104 ∧ Params.vectors.rxStartDelay = 52
    ∧ ({ Params.vectors with startDelay := .wholeBit } : Params).rxStartDelay = 104 := by decide

/-- The first vector of R180: 1 MHz at 9600 gives 104, 1600, 1, 3200, 3, 1. -/
theorem witness_BaudValues :
    let c := Params.vectors
    0 < c.sA ∧ 1 = 8 * (c.freq c.clkA % c.sA) / c.sA ∧ 3200 = 8 * (c.freq c.clkA % c.sA) % c.sA
    ∧ 3 = 10 * 3200 / c.sA ∧ c.baudDiv = 104 ∧ c.baudRem = 1600 ∧ c.baudMod = 1 := by decide

theorem witness_LaunchState :
    (State.launch { Params.vectors with sA := 0 } Launch.reset).refused = some .config
    ∧ (State.launch Params.vectors Launch.reset).refused = none
    ∧ (State.launch Params.vectors { Launch.reset with ctr := 7, lineRx := false }).ctr = 7
    ∧ (State.launch Params.vectors { Launch.reset with ctr := 7, lineRx := false }).line = ⟨true, false⟩ := by decide

theorem witness_InitLines :
    (fgAt .l0).cfg.configOk = true
    ∧ ((fgAt .l6).setUeng { liveUart with swrst := .written true }).ueng.swrst = .written true
    ∧ (fgAt .l6).ueng.swrst = .written false
    ∧ ((fgAt .l4).setIeng { liveI2c with swrst := .written true }).ieng.swrst = .written true
    ∧ (fgAt .l4).ieng.swrst = .written false := by decide

theorem witness_InitIsIdempotent : (fgAt .l0).fg.label = .l0 ∧ (fgAt .l0).cfg.configOk = true := by decide

/-- Reset with an engine whose holding register is full. -/
def fullUart (l : Label) : State := (fgAt l).setUeng { liveUart with txreg := .written 1, txregFull := .written true }

/-- A state whose admitted set is empty. -/
def closed (s : State) : State := { s with adm := [] }

theorem witness_UartTransmitLines :
    (fgAt .l0).ueng.live = true ∧ (0xFFFE#32 : BitVec 32).toNat + 1 < 2 ^ (fgAt .l2).cfg.addrW
    ∧ (closed (fgAt .l4)).admitted 0x200 = false ∧ (fgAt .l4).admitted 0x200 = true
    ∧ (fgAt .l4).ueng.txregFull = .written false
    ∧ ((fullUart .l4).admitted 0x200 = true ∧ (fullUart .l4).ueng.txregFull = .written true) := by decide

/-- The scan holding a byte that is not 0. -/
def scanning (l : Label) (b : Byte) (len : Nat) : State := (fgAt l).setFg { (fgAt l).fg with b := b, len := len }

theorem witness_UartPutsLines :
    (fgAt .l0).ueng.live = true ∧ (fgAt .l1).admitted (0x200 + (fgAt .l1).fg.len) = true
    ∧ (closed (fgAt .l1)).admitted (0x200 + 0) = false ∧ (scanning .l2 0 0).fg.b = 0
    ∧ ((scanning .l2 1 0).fg.b ≠ 0 ∧ 2 ^ (scanning .l2 1 0).cfg.addrW ≤ 0xFFFF + (scanning .l2 1 0).fg.len + 1)
    ∧ 2 ^ (scanning .l2 1 65535).cfg.countW ≤ (scanning .l2 1 65535).fg.len + 1
    ∧ (0xFFFE + (scanning .l2 1 0).fg.len + 1 < 2 ^ (scanning .l2 1 0).cfg.addrW
      ∧ (scanning .l2 1 0).fg.len + 1 < 2 ^ (scanning .l2 1 0).cfg.countW)
    ∧ (fgAt .l3).fg.len = 0 ∧ (scanning .l3 0 1).fg.len ≠ 0 ∧ 0xFFFE + 1 < 2 ^ (fgAt .x2).cfg.addrW
    ∧ (closed (fgAt .x4)).admitted 0x200 = false
    ∧ ((fgAt .x4).admitted 0x200 = true ∧ (fgAt .x4).ueng.txregFull = .written false)
    ∧ ((fullUart .x4).admitted 0x200 = true ∧ (fullUart .x4).ueng.txregFull = .written true) := by decide

/-- The two bytes of the example of R187 and their zero; and one byte at the last address of the space. -/
theorem witness_UartPutsScan :
    let s := fgAt .l0
    let t := { fgAt .l0 with mem := [(0xFFFF, 1)] }
    (s.fg.label = .l0 ∧ s.ueng.live = true
      ∧ (∀ k, k < 2 → s.admitted (0x200 + k) = true ∧ memGet s.mem (0x200 + k) ≠ 0)
      ∧ 0x200 + 2 < 2 ^ s.cfg.addrW ∧ 2 < 2 ^ s.cfg.countW ∧ s.admitted (0x200 + 2) = true
      ∧ memGet s.mem (0x200 + 2) = 0)
    ∧ (t.fg.label = .l0 ∧ t.ueng.live = true
      ∧ (∀ k, k < 1 → t.admitted (0xFFFF + k) = true ∧ memGet t.mem (0xFFFF + k) ≠ 0)
      ∧ 0xFFFF + 1 = 2 ^ t.cfg.addrW ∧ 1 < 2 ^ t.cfg.countW) := by decide

theorem witness_UartGetcLines : (fgAt .l0).ueng.live = true := rfl

/-- The interrupt context with a full UART holding register. -/
def fullTx (l : IrqLabel) : State := (irqAt l).setUeng { liveUart with txreg := .written 1, txregFull := .written true }

theorem witness_UartHandlerLines :
    ((irqAt .t0).setUeng UartEngine.reset).ueng.txReady ≠ .written true ∧ (irqAt .t0).ueng.txReady = .written true
    ∧ (closed (irqAt .t3)).admitted (closed (irqAt .t3)).uart.txCursor = false
    ∧ ((irqAt .t3).admitted (irqAt .t3).uart.txCursor = true ∧ (irqAt .t3).ueng.txregFull = .written false)
    ∧ (fullTx .t3).ueng.txregFull = .written true
    ∧ ((irqAt .t4).setUart { lively.uart with txCursor := 0xFFFE }).uart.txCursor + 1 < 2 ^ (irqAt .t4).cfg.addrW
    ∧ ((irqAt .q0).setUeng UartEngine.reset).ueng.rxReady ≠ .written true ∧ (irqAt .q0).ueng.rxReady = .written true
    ∧ (irqAt .q1).ueng.rxbuf = .written 0x5A := by decide

theorem witness_I2cTransferLines :
    i2cOperands (.i2cReceive 0x48 0x300 2 (some 5)) = some (.recv, 0x48, 0x300, 2, some 5)
    ∧ i2cOperands (.i2cTransfer .send 0x48 0x300 0 none) = some (.send, 0x48, 0x300, 0, none)
    ∧ (fgAt .l0).ieng.live = true
    ∧ ((fgAt .l10).setIeng { liveI2c with startReq := .written true }).ieng.startReq = .written true
    ∧ (fgAt .l10).ieng.startReq = .written false
    ∧ ((fgAt .l13).setIeng { liveI2c with busBusy := .written true }).ieng.busBusy = .written true
    ∧ (fgAt .l13).ieng.busBusy = .written false
    ∧ 0 < claimCount ((fgAt .l14).setClaims [0, 1]).claims (fgAt .l14).cfg.clkB
    ∧ ((fgAt .l14).cfg.claimKind = .counter ∧ claimCount (fgAt .l14).claims (fgAt .l14).cfg.clkB = 0) :=
  ⟨rfl, rfl, by decide, by decide, by decide, by decide, by decide, by decide, by decide⟩

theorem witness_I2cTransmitHandlerLines :
    ((irqAt .t0).setIeng I2cEngine.reset).ieng.txReady ≠ .written true ∧ (irqAt .t0).ieng.txReady = .written true
    ∧ (closed (irqAt .t2)).admitted (closed (irqAt .t2)).i2c.cursor = false
    ∧ ((irqAt .t2).admitted (irqAt .t2).i2c.cursor = true ∧ (irqAt .t2).ieng.txregFull = .written false)
    ∧ ((irqAt .t2).setIeng { liveI2c with txregFull := .written true }).ieng.txregFull = .written true
    ∧ ((irqAt .t3).setI2c { lively.i2c with cursor := 0xFFFE }).i2c.cursor + 1 < 2 ^ (irqAt .t3).cfg.addrW := by decide

theorem witness_I2cReceiveHandlerLines :
    ((irqAt .n0).setIeng I2cEngine.reset).ieng.nack ≠ .written true ∧ (irqAt .n0).ieng.nack = .written true
    ∧ ((irqAt .q0).setIeng I2cEngine.reset).ieng.rxReady ≠ .written true ∧ (irqAt .q0).ieng.rxReady = .written true
    ∧ (irqAt .q2).ieng.rxbuf = .written 0xA5 ∧ (irqAt .q3).i2c.count = 0
    ∧ ((irqAt .q3).setI2c { lively.i2c with count := 1 }).i2c.count ≠ 0
    ∧ (closed (irqAt .q4)).admitted (closed (irqAt .q4)).i2c.cursor = false
    ∧ ((irqAt .q4).admitted (irqAt .q4).i2c.cursor = true ∧ Memory.wf (irqAt .q4).mem = true)
    ∧ ((irqAt .q5).setI2c { lively.i2c with cursor := 0xFFFE }).i2c.cursor + 1 < 2 ^ (irqAt .q5).cfg.addrW := by decide

theorem witness_HandlerCalls :
    ((irqAt .t0).ueng.txReady = .written true ∧ (irqAt .t0).ueng.txregFull = .written false)
    ∧ (2 ≤ ((irqAt .t0).setUart { lively.uart with txCount := 2, txCursor := 0xFFFE }).uart.txCount
      ∧ (irqAt .t0).admitted 0xFFFE = true ∧ 0xFFFE + 1 < 2 ^ (irqAt .t0).cfg.addrW)
    ∧ ((irqAt .t0).setUart { lively.uart with txCount := 1 }).uart.txCount ≤ 1
    ∧ ((irqAt .q0).ueng.rxReady = .written true ∧ (irqAt .q0).ueng.rxbuf = .written 0x5A)
    ∧ ((irqAt .t0).ieng.txReady = .written true ∧ (irqAt .t0).ieng.txregFull = .written false)
    ∧ 0 < ((irqAt .t0).setI2c { lively.i2c with count := 1 }).i2c.count ∧ (irqAt .t0).i2c.count = 0
    ∧ (irqAt .n0).ieng.nack = .written true := by decide

theorem witness_I2cReceiveCall :
    let quiet := (irqAt .n0).setIeng { liveI2c with nack := .written false }
    let s := quiet.setI2c { lively.i2c with count := 2, cursor := 0xFFFE }
    let t := quiet.setI2c { lively.i2c with count := 1, cursor := 0x300 }
    (s.irq.label = .n0 ∧ s.ieng.nack ≠ .written true ∧ s.ieng.rxReady = .written true ∧ s.ieng.rxbuf = .written 0xA5 ∧ 0 < s.i2c.count
      ∧ s.admitted s.i2c.cursor = true ∧ s.i2c.cursor + 1 < 2 ^ s.cfg.addrW ∧ Memory.wf s.mem = true)
    ∧ (s.cfg.rxStopPolicy = .preLe2 ∧ s.i2c.count ≤ 2)
    ∧ (0 < t.i2c.count ∧ t.admitted t.i2c.cursor = true ∧ t.i2c.cursor + 1 < 2 ^ t.cfg.addrW)
    ∧ (nextOf (execN 4 .i2cHandleRxIrq s)).map (fun u => u.ieng.rxReady) = some (.written false) := by decide

theorem witness_CursorPastTheTop :
    2 ^ (fgAt .l2).cfg.addrW ≤ (0xFFFF#32 : BitVec 32).toNat + 1
    ∧ 2 ^ (fgAt .x2).cfg.addrW ≤ (0xFFFF#32 : BitVec 32).toNat + 1
    ∧ 2 ^ (irqAt .t4).cfg.addrW ≤ ((irqAt .t4).setUart { lively.uart with txCursor := 0xFFFF }).uart.txCursor + 1
    ∧ 2 ^ (irqAt .t3).cfg.addrW ≤ ((irqAt .t3).setI2c { lively.i2c with cursor := 0xFFFF }).i2c.cursor + 1
    ∧ 2 ^ (irqAt .q5).cfg.addrW ≤ ((irqAt .q5).setI2c { lively.i2c with cursor := 0xFFFF }).i2c.cursor + 1 := by decide

theorem witness_MicroStepsThatStop :
    let s := State.reset
    (s.swu.dl = .unwritten ∧ s.swu.sh = .unwritten ∧ s.swu.i = .unwritten ∧ s.swu.acc = .unwritten
      ∧ s.ueng.txregFull = .unwritten ∧ s.ieng.startReq = .unwritten ∧ s.ieng.busBusy = .unwritten
      ∧ s.ieng.txregFull = .unwritten ∧ s.admitted 0 = true ∧ s.admitted s.uart.txCursor = true
      ∧ s.admitted s.i2c.cursor = true
      ∧ s.ueng.rxbuf = .unwritten ∧ s.ieng.rxbuf = .unwritten ∧ s.cpu.saved = .unwritten)
    ∧ (∀ l, (s.goto l).swu = s.swu ∧ (s.goto l).ueng = s.ueng ∧ (s.goto l).ieng = s.ieng ∧ (s.goto l).fg.label = l)
    ∧ (∀ l, (s.irqGoto l).ueng = s.ueng ∧ (s.irqGoto l).ieng = s.ieng ∧ (s.irqGoto l).cpu = s.cpu
      ∧ (s.irqGoto l).irq.label = l)
    ∧ vecOf s.cfg 0 = some .vm
    ∧ ((s.setCpu { s.cpu with ctx := .irq .vm 4 false }).irqGoto .d3).cpu.saved = .unwritten
    ∧ (i2cOperands (.i2cSend 0 0 1 none)).isSome = true ∧ needsUart (.uartGetc none) = true
    ∧ s.ueng.live = false ∧ s.ieng.live = false
    ∧ ({ Params.vectors with sA := 2000000 } : Params).baudDiv = 0
    ∧ 2 ^ ({ Params.vectors with brW := 4 } : Params).brW ≤ ({ Params.vectors with brW := 4 } : Params).baudRem
    ∧ 2 ^ ({ Params.vectors with modW := 0 } : Params).modW ≤ ({ Params.vectors with modW := 0 } : Params).baudMod
    ∧ ({ Params.vectors with clkA := 2 } : Params).clockFreq.length ≤ ({ Params.vectors with clkA := 2 } : Params).clkA
    ∧ ({ Params.vectors with clkB := 2 } : Params).clockFreq.length ≤ ({ Params.vectors with clkB := 2 } : Params).clkB
    ∧ ({ Params.vectors with i2cDiv := 0 } : Params).i2cDiv = 0 := by
  refine ⟨by decide, fun _ => ⟨rfl, rfl, rfl, rfl⟩, fun _ => ⟨rfl, rfl, rfl, rfl⟩, by decide, by decide, by decide,
    by decide, by decide,
    by decide, by decide, by decide, by decide, by decide, by decide, by decide⟩

/-- The engines of `lively` run, free of handlers and faults. -/
theorem engines_free (s : State) (h : s.cfg = Params.vectors) : EnginesFree s := .inl (by rw [h]; rfl)

theorem no_faults (s : State) (h : s.fault = []) (a : Agent) : ¬ Faulted a s := by simp [Faulted, h]

/-- A UART engine about to load, and one about to shift out. -/
def loading : State :=
  lively.setUeng { liveUart with txreg := .written 1, txregFull := .written true, txReady := .written false }
def shifting : State := lively.setUeng { liveUart with shifter := .written 1, shifterFull := .written true }

theorem witness_UartEngineAndClockSteps :
    (∀ c, Moves c (scripted c lively) lively ∧ Moves c (scripted c loading) loading
      ∧ Moves c (scripted c shifting) shifting)
    ∧ (uartRunning lively = true ∧ EnginesFree lively ∧ ¬ Faulted .envU lively)
    ∧ (uartRunning loading = true ∧ EnginesFree loading ∧ ¬ Faulted .envU loading
      ∧ loading.ueng.txregFull = .written true ∧ loading.ueng.shifterFull = .written false
      ∧ loading.ueng.txreg = .written 1)
    ∧ (uartRunning shifting = true ∧ EnginesFree shifting ∧ ¬ Faulted .envU shifting
      ∧ shifting.ueng.shifterFull = .written true ∧ shifting.ueng.shifter = .written 1)
    ∧ lively.ueng.txregFull ≠ .written true ∧ lively.ueng.shifterFull ≠ .written true :=
  ⟨fun _ => ⟨⟨rfl, .inl ⟨[], rfl, rfl⟩⟩, ⟨rfl, .inl ⟨[], rfl, rfl⟩⟩, ⟨rfl, .inl ⟨[], rfl, rfl⟩⟩⟩,
    ⟨by decide, engines_free _ rfl, no_faults _ rfl _⟩,
    ⟨by decide, engines_free _ rfl, no_faults _ rfl _, by decide, by decide, by decide⟩,
    ⟨by decide, engines_free _ rfl, no_faults _ rfl _, by decide, by decide⟩, by decide, by decide⟩

/-- Asleep with no claim, so that the engines' clocks stop; and inside a handler that freezes the engines. -/
theorem witness_EnginesHeld :
    let asleep := lively.setCpu { lively.cpu with asleep := true }
    let frozen := { irqAt .d0 with cfg := { Params.vectors with handlerAtomic := true } }
    (∀ c, Moves c (scripted c asleep) asleep ∧ Moves c (scripted c frozen) frozen)
    ∧ uartRunning asleep = false ∧ i2cRunning asleep = false ∧ ¬ EnginesFree frozen
    ∧ uartRunning lively = true ∧ i2cRunning lively = true :=
  ⟨fun _ => ⟨⟨rfl, .inl ⟨[], rfl, rfl⟩⟩, ⟨rfl, .inl ⟨[], rfl, rfl⟩⟩⟩, by decide, by decide,
    by rintro (h | h) <;> exact absurd h (by decide), by decide, by decide⟩

/-- The I2C engine in a state, with its requests. -/
def busAt (e : EState) (start stop : Bool) : State :=
  lively.setIeng { liveI2c with
    estate := .written e, busBusy := .written true, startReq := .written start, stopReq := .written stop,
    rxReady := .written false, txreg := .written 1, shifter := .written 1 }

theorem busAt_moves (e : EState) (start stop : Bool) (c : Choice) :
    Moves c (scripted c (busAt e start stop)) (busAt e start stop) ∧ i2cRunning (busAt e start stop) = true
    ∧ EnginesFree (busAt e start stop) ∧ ¬ Faulted .envI (busAt e start stop)
    ∧ (busAt e start stop).ieng.estate = .written e ∧ (busAt e start stop).ieng.startReq = .written start
    ∧ (busAt e start stop).ieng.stopReq = .written stop :=
  ⟨⟨rfl, .inl ⟨[], rfl, rfl⟩⟩, rfl, engines_free _ rfl, no_faults _ rfl _, rfl, rfl, rfl⟩

/-- Each step in the states its rule names, by `busAt_moves`: START in IDLE and HOLD, ADDRESS of a send and a receive,
STOP in TX, HOLD and RXLAST, STOP_END, STOP_IDLE under both policies, START_BUSY. -/
theorem witness_I2cBusConditions :
    (busAt .hold true false).ieng.sa = .written 0x48 ∧ (busAt .addr true false).ieng.dirTx = .written true
    ∧ ((busAt .addr true false).setIeng { (busAt .addr true false).ieng with dirTx := .written false }).ieng.dirTx =
        .written false
    ∧ ((busAt .tx false true).ieng.txregFull = .written false ∧ (busAt .tx false true).ieng.shifterFull = .written false)
    ∧ (busAt .rxlast false true).ieng.rxReady = .written false
    ∧ (busAt .idle false true).cfg.stopInIdle = .fault
    ∧ ({ busAt .idle false true with cfg := { Params.vectors with stopInIdle := .ignore } } : State).cfg.stopInIdle =
        .ignore
    ∧ (busAt .rx true false).ieng.startReq = .written true ∧ (busAt .stopping true false).ieng.estate ≠ .written .tx := by
  decide

theorem witness_I2cBusData :
    (let s := (busAt .tx false false).setIeng { (busAt .tx false false).ieng with txregFull := .written true }
     s.ieng.estate = .written .tx ∧ s.ieng.txregFull = .written true ∧ s.ieng.shifterFull = .written false
       ∧ s.ieng.txreg = .written 1)
    ∧ (busAt .tx false false).ieng.txregFull ≠ .written true
    ∧ (let s := (busAt .tx false false).setIeng { (busAt .tx false false).ieng with shifterFull := .written true }
       s.ieng.shifterFull = .written true ∧ s.ieng.shifter = .written 1)
    ∧ (busAt .tx false false).ieng.shifterFull ≠ .written true
    ∧ ((busAt .rx false true).ieng.rxReady = .written false ∧ (busAt .rx false true).ieng.stopReq = .written true)
    ∧ lively.ieng.rxReady ≠ .written false := by decide

/-- The interrupt context at its exit, with a sleep to return to. -/
def leaving : State := scripted .irq ((irqAt .d3).setCpu { (irqAt .d3).cpu with ctx := .irq .vm 4 false })

theorem contextInv_leaving : ContextInv leaving := by
  refine ⟨fun _ => ⟨rfl, rfl, (nofun : Reg.written true ≠ .unwritten)⟩, ?_⟩
  intro v j w h
  cases h
  exact ⟨by decide, .inl (by decide)⟩

/-- A sleeping foreground with the tick pending, so that VT is acceptable. -/
def sleeping : State :=
  scripted (.enter .vt) ((lively.setCpu { lively.cpu with asleep := true }).setTickPending true)

theorem contextInv_sleeping : ContextInv sleeping :=
  ⟨fun h => absurd rfl h, fun v j w h => by cases h⟩

/-- The foreground at W3 of a UART_GETC. -/
def dozing : State :=
  scripted .fg { fgAt .w3 with
    fg := { (fgAt .w3).fg with prog := [encode (.uartGetc none)] }, cpu := { lively.cpu with gie := false } }

theorem contextInv_dozing : ContextInv dozing :=
  ⟨fun h => absurd rfl h, fun v j w h => by cases h⟩

/-- The dispatcher at D2, with a wake request to OR in. -/
def advancing : State :=
  scripted .irq ((irqAt .d2).setIrq { (irqAt .d2).irq with wh := true })

theorem contextInv_advancing : ContextInv advancing := by
  refine ⟨fun _ => ⟨rfl, rfl, (nofun : Reg.written true ≠ .unwritten)⟩, ?_⟩
  intro v j w h
  cases h
  exact ⟨by decide, .inr ⟨.uartTx, by decide, .inl (by decide)⟩⟩

/-- An exit returns to sleep, an entry leaves it, the foreground at W3 goes to sleep, and D2 goes on to the next handler. -/
theorem witness_SleepMaskAndContextWriters :
    ContextInv leaving ∧ ContextInv sleeping ∧ ContextInv dozing ∧ ContextInv advancing
    ∧ (∃ u, Moves .irq advancing u)
    ∧ (nextOf (step advancing)).map (fun t => t.cpu.ctx) = some (.irq .vm 1 true)
    ∧ (∃ u, Moves .irq leaving u) ∧ (∃ u, Moves (.enter .vt) sleeping u) ∧ (∃ u, Moves .fg dozing u)
    ∧ leaving.cpu.asleep = false ∧ sleeping.cpu.asleep = true ∧ dozing.cpu.asleep = false
    ∧ (nextOf (step leaving)).map (fun t => (t.cpu.asleep, t.cpu.gie, t.cpu.ctx)) = some (true, true, .fg)
    ∧ (nextOf (step sleeping)).map (fun t => (t.cpu.asleep, t.cpu.gie, t.cpu.ctx))
        = some (false, false, .irq .vt 0 false)
    ∧ (nextOf (step dozing)).map (fun t => t.cpu.asleep) = some true :=
  ⟨contextInv_leaving, contextInv_sleeping, contextInv_dozing, contextInv_advancing, ⟨_, moves_scripted _ _ rfl⟩,
    by decide, ⟨_, moves_scripted _ _ rfl⟩, ⟨_, moves_scripted _ _ rfl⟩,
    ⟨_, moves_scripted _ _ rfl⟩, by decide, by decide, by decide, by decide, by decide, by decide⟩

/-- A receive handler that stores its last byte. -/
def storing (l : IrqLabel) : State :=
  scripted .irq (((inBody .vm 3 l).setI2c { lively.i2c with count := 1, cursor := 0x300 }).setIrq
    { label := l, wh := false, r := 0x11 })

theorem sessionInv_storing : SessionInv (storing .q4) := by
  constructor
  all_goals
    rintro ⟨h1, h2⟩ h3
    first | exact absurd h1 (by decide) | decide

theorem witness_SessionAndMemoryWriters :
    SessionInv (storing .q4) ∧ Memory.wf (storing .q4).mem = true ∧ (∃ u, Moves .irq (storing .q4) u)
    ∧ (nextOf (step (storing .q4))).map (fun t => memGet t.mem 0x300) = some 0x11 :=
  ⟨sessionInv_storing, by decide, ⟨_, moves_scripted _ _ rfl⟩, by decide⟩

theorem witness_FlagAndLineWriters :
    (∃ u, Moves .ctr (scripted .ctr lively) u)
    ∧ (nextOf (step (scripted .ctr lively))).map (fun t => t.ctr) = some 1
    ∧ (nextOf (step (scripted (.line false) lively))).map (fun t => t.line.rx) = some false
    ∧ (nextOf (step (scripted .tick lively))).map (fun t => t.tickPending) = some true :=
  ⟨⟨_, moves_scripted _ _ rfl⟩, by decide, by decide, by decide⟩

/-- An I2C send in progress, about to release its clock. -/
def releasing : State :=
  scripted .fg { (fgAt .l14).setClaims [0, 1] with
    fg := { (fgAt .l14).fg with prog := [0x000000020000030000480034#96] }, cpu := { lively.cpu with gie := false } }

theorem witness_TransfersPairTheirClaims :
    (∃ u, Moves .tick (scripted .tick { lively with fg := { lively.fg with prog := [encode .uartEnable] } }) u)
    ∧ (∃ u, Moves .fg releasing u) ∧ releasing.cfg.claimKind = .counter
    ∧ fgInstr releasing = .ok (.i2cSend 0x48 0x300 2 none) ∧ transferHold releasing 1 = 1
    ∧ (nextOf (step releasing)).map (fun t => (t.claims, t.fg.k)) = some ([0, 0], 1) :=
  ⟨⟨_, moves_scripted _ _ rfl⟩, ⟨_, moves_scripted _ _ rfl⟩, by decide, by decide, by decide, by decide⟩

theorem witness_NothingIsTakenBack :
    (nextOf (step (scripted (.uReceive 7) lively))).map (fun t => t.trace) = some [.uIn 7]
    ∧ (scripted (.uReceive 7) lively).ueng.live = true ∧ (scripted (.uReceive 7) lively).ieng.live = true
    ∧ lively.ueng.txIe = .written true ∧ lively.ueng.rxIe = .written true ∧ lively.ieng.txIe = .written true
    ∧ lively.ieng.rxIe = .written true ∧ lively.ieng.nackIe = .written true := by decide

/-- Each group of the two frame statements answers a next state. -/
theorem witness_Frames :
    (nextOf (exec .uartStatusRead (fgAt .l0))).isSome = true ∧ (nextOf (exec .swuGetc (fgAt .l1))).isSome = true
    ∧ (nextOf (exec .i2cDisable (fgAt .l0))).isSome = true ∧ (nextOf (exec (.uartGetc none) (fgAt .l4))).isSome = true
    ∧ (nextOf (exec (.i2cReceive 0 0 1 none) (fgAt .l11))).isSome = true
    ∧ (nextOf (exec .uartHandleTxIrq (irqAt .t5))).isSome = true
    ∧ (nextOf (exec .i2cHandleRxIrq (irqAt .q4))).isSome = true ∧ Memory.wf (irqAt .q4).mem = true
    ∧ (nextOf (exec .tickIsr (irqAt .k0))).isSome = true ∧ (nextOf (exec (.dispatch 0) (irqAt .d0))).isSome = true := by
  decide

theorem witness_InvariantsHoldAtLaunch :
    Params.vectors.allowed = true ∧ Memory.wf [(0x200, 0x48)] = true
    ∧ (∀ x ∈ [((0x200 : Nat), (0x48 : Byte))], x.1 < 2 ^ Params.vectors.addrW) ∧ 65535 < 2 ^ Params.vectors.ctrW := by
  decide

/-- A store that changes memory, from a state that meets the memory invariant. -/
theorem witness_MemoryInvariant :
    MemInv (storing .q4) ∧ (nextOf (step (storing .q4))).map (fun t => t.mem != (storing .q4).mem) = some true :=
  ⟨⟨by decide, by decide⟩, by decide⟩

theorem contextInv_storing : ContextInv (storing .q4) := by
  refine ⟨fun _ => ⟨rfl, rfl, by simp [Reg.Written, storing, scripted, inBody, State.setCpu, State.irqGoto, State.setI2c, State.setIrq, State.setSched]⟩, ?_⟩
  intro v j w h
  cases h
  exact ⟨by decide, .inr ⟨.i2cRx, by decide, .inr (by decide)⟩⟩

theorem witness_ContextInvariant :
    ContextInv (storing .q4) ∧ (nextOf (step (storing .q4))).map (fun t => t.irq.label) = some .q5 :=
  ⟨contextInv_storing, by decide⟩

/-- A written element, by its value. -/
theorem written_of {α : Type} {r : Reg α} (v : α) (h : r = .written v) : r.Written := by
  subst h
  intro h
  cases h

theorem uartEngineInv_live : UartEngineInv (storing .q4) where
  live _ := ⟨written_of false rfl, written_of true rfl, written_of true rfl, written_of false rfl, written_of false rfl⟩
  ready _ := rfl
  holding h := absurd h (by decide)
  shifting h := absurd h (by decide)
  received _ := written_of 0x5A rfl

theorem i2cEngineInv_live : I2cEngineInv (storing .q4) where
  live _ := ⟨written_of false rfl, written_of false rfl, written_of false rfl, written_of true rfl, written_of true rfl,
    written_of true rfl, written_of false rfl, written_of false rfl, written_of false rfl, written_of .idle rfl⟩
  ready _ := written_of false rfl
  holding h := absurd h (by decide)
  shifting h := absurd h (by decide)
  received _ := written_of 0xA5 rfl
  bus e h := by
    cases h
    exact ⟨rfl, rfl⟩
  unborn h := absurd h (by decide)

theorem registerInv_live : RegisterInv (storing .q4) := by
  constructor
  all_goals
    first
      | decide
      | (intro h; exact absurd h (by decide))
      | (intro v h; cases h; decide)
      | (intro v h; cases h)

/-- SWU_GETC about to sample its last data bit. -/
def sampling : State :=
  scripted .fg { (fgAt .l5).setSwu { lively.swu with i := .written 7 } with
    fg := { (fgAt .l5).fg with prog := [encode .swuGetc] }, cpu := { lively.cpu with gie := false } }

theorem fgInstr_sampling : fgInstr sampling = .ok .swuGetc := by decide

theorem registerInv_sampling : RegisterInv sampling := by
  constructor
  all_goals
    first
      | decide
      | (intro h; exact absurd h (by decide))
      | (intro v h; cases h; decide)
      | (intro v h; cases h)

theorem readsInv_sampling : ReadsInv sampling where
  context := ⟨fun h => absurd rfl h, fun v j w h => by cases h⟩
  position := .inr ⟨.swuGetc, fgInstr_sampling, by decide⟩
  uart :=
    { live := fun _ => uartEngineInv_live.live rfl, ready := fun _ => rfl, holding := fun h => absurd h (by decide),
      shifting := fun h => absurd h (by decide), received := fun _ => written_of 0x5A rfl }
  i2c :=
    { live := fun _ => i2cEngineInv_live.live rfl, ready := fun _ => written_of false rfl,
      holding := fun h => absurd h (by decide), shifting := fun h => absurd h (by decide),
      received := fun _ => written_of 0xA5 rfl, bus := fun e h => by cases h; exact ⟨rfl, rfl⟩,
      unborn := fun h => absurd h (by decide) }
  foreground i h := by
    rw [fgInstr_sampling] at h
    cases h
    exact fun _ => ⟨written_of 1104 rfl, written_of 5 rfl, written_of 7 rfl,
      fun v hv => by cases hv; exact (by decide : (7 : Nat) < 8)⟩
  handler :=
    ⟨fun h => absurd h.1 (by decide), fun h => absurd h.1 (by decide), fun h => absurd h.1 (by decide),
      fun h => absurd h.1 (by decide)⟩
  clean f h := by cases h

/-- Both clauses, the bit index at its bound: the last data bit takes it to 8. -/
theorem witness_RegisterInvariant :
    (storing .q4).cfg.allowed = true ∧ RegisterInv (storing .q4)
    ∧ (nextOf (step (storing .q5))).map (fun t => t.i2c.cursor) = some 0x301
    ∧ sampling.cfg.allowed = true ∧ RegisterInv sampling ∧ ReadsInv sampling ∧ BitIndexInv sampling
    ∧ (nextOf (step sampling)).map (fun t => t.swu.i) = some (.written 8) :=
  ⟨by decide, registerInv_live, by decide, by decide, registerInv_sampling, readsInv_sampling,
    fun v hv => by cases hv; decide, by decide⟩

/-- RegisterInv's claims under BOOLEAN, at the bound. -/
theorem test_booleanClaims :
    (nextOf (exec .uartEnable { (fgAt .l0).setClaims [1] with cfg := { Params.vectors with claimKind := .boolean } })).map
      (fun t => claimCount t.claims 0) = some 1 := by decide

theorem witness_UartEngineInvariant :
    UartEngineInv (storing .q4)
    ∧ (nextOf (step (scripted (.uReceive 7) (storing .q4)))).isSome = true :=
  ⟨uartEngineInv_live, by decide⟩

theorem witness_I2cEngineInvariant :
    I2cEngineInv (storing .q4) ∧ (nextOf (step (storing .q2))).map (fun t => t.ieng.rxReady) = some (.written false) :=
  ⟨i2cEngineInv_live, by decide⟩

/-- A UART handler about to feed. -/
def feeding : State :=
  scripted .irq ((inBody .vm 0 .t3).setUart { lively.uart with txCount := 1, txCursor := 0x200 })

theorem witness_SessionInvariant :
    SessionInv feeding ∧ UartEngineInv feeding ∧ InHandler .uartTx feeding
    ∧ (nextOf (step feeding)).map (fun t => (t.irq.label, t.fault)) = some (.t4, []) := by
  refine ⟨?_, ?_, ⟨by decide, by decide⟩, by decide⟩
  · constructor
    all_goals
      rintro ⟨h1, h2⟩ h3
      first | exact absurd h1 (by decide) | exact absurd h3 (by decide) | decide
  · exact
      { live := fun _ => ⟨written_of false rfl, written_of true rfl, written_of true rfl, written_of false rfl,
          written_of false rfl⟩
        ready := fun _ => rfl
        holding := fun h => absurd h (by decide)
        shifting := fun h => absurd h (by decide)
        received := fun _ => written_of 0x5A rfl }

theorem witness_NoUnwrittenRead :
    ReadsInv (storing .q4) ∧ (nextOf (step (storing .q4))).map (fun t => t.fault) = some [] := by
  refine ⟨?_, by decide⟩
  exact
    { context := contextInv_storing
      position := .inl rfl
      uart := uartEngineInv_live
      i2c := i2cEngineInv_live
      foreground := by
        intro i h
        have he : fgInstr (storing .q4) = .error .unassignedOpcode := by decide
        rw [he] at h
        cases h
      handler :=
        ⟨fun h => absurd h.1 (by decide), fun h => absurd h.1 (by decide), fun h => absurd h.1 (by decide),
          fun _ h => absurd h (by decide)⟩
      clean := by
        intro f h
        cases h }

end Sys2Proof.Tests
end

section
/-! PROOFS. The common operations of 40_common.md: TICK_ISR with the Timeout Guard it ticks, the timeout boundary, and the
four status operations. -/

namespace Sys2Proof.Machine

/-! ### The guard's tick and its wake request, in each of the guard's conditions (R126) -/

theorem tgTick_of_counting {g : Guard} (harmed : g.armed = true) (hexp : g.expired = false) :
    tgTick g = { g with count := g.count - 1, expired := decide (g.count - 1 = 0) } := by
  obtain ⟨-, -, htick⟩ | ⟨hidle, -⟩ := tgTick_cases g
  · exact htick
  · simp [harmed, hexp] at hidle

theorem tgTick_of_not_counting {g : Guard} (hidle : g.armed = false ∨ g.expired = true) : tgTick g = g := by
  obtain ⟨harmed, hexp, -⟩ | ⟨-, htick⟩ := tgTick_cases g
  · simp [harmed, hexp] at hidle
  · exact htick

theorem tgWake_of_counting (c : Params) {g : Guard} (harmed : g.armed = true) (hexp : g.expired = false) :
    tgWake c g = decide (g.count - 1 = 0) := by
  simp [tgWake, harmed, hexp, beq_eq_decide]

theorem tgWake_of_expired (c : Params) {g : Guard} (harmed : g.armed = true) (hexp : g.expired = true) :
    tgWake c g = decide (c.tickWake = .everyTickWhileExpired) := by
  simp [tgWake, harmed, hexp, beq_eq_decide]

theorem tgWake_of_unarmed (c : Params) {g : Guard} (harmed : g.armed = false) : tgWake c g = false := by
  simp [tgWake, harmed]

/-! ### TICK_ISR, one equation per line (R340) -/

theorem exec_tickIsr (s : State) : exec .tickIsr s = execTickIsr s := rfl

theorem exec_tickIsr_k0 {s : State} (hl : s.irq.label = .k0) :
    exec .tickIsr s = .next ((s.setTickPending false).irqGoto .k1) := by
  simp [exec_tickIsr, execTickIsr, hl]

theorem exec_tickIsr_k1 {s : State} (hl : s.irq.label = .k1) :
    exec .tickIsr s =
      .next (((s.setTg (tgTick s.tg)).setIrq { s.irq with wh := tgWake s.cfg s.tg }).irqGoto .k2) := by
  simp [exec_tickIsr, execTickIsr, hl]

theorem exec_tickIsr_k2 {s : State} (hl : s.irq.label = .k2) : exec .tickIsr s = .next (irqExit s.irq.wh s) := by
  simp [exec_tickIsr, execTickIsr, hl]

/-- EXIT over a written saved sleep: it never stops the agent (R338). -/
theorem irqExit_of_saved {s : State} {b : Bool} (w : Bool) (hsaved : s.cpu.saved = .written b) :
    irqExit w s = s.setCpu { s.cpu with gie := true, asleep := b && !w, ctx := .fg } := by
  simp [irqExit, hsaved]

/-! ### The guard along a run of ticks (R129) -/

/-- The guard armed with `n` ticks, after `k` ticks: the count stops at 0, and there the guard has expired. -/
def guardAfter (n k : Nat) : Guard := { armed := true, count := n - k, expired := decide (n ≤ k) }

theorem guardAfter_zero {n : Nat} (hn : 1 ≤ n) : guardAfter n 0 = { armed := true, count := n, expired := false } := by
  have hne : n ≠ 0 := by omega
  simp [guardAfter, hne]

/-- One TG_TICK takes the guard after `k` ticks to the guard after `k + 1`. -/
theorem tgTick_guardAfter (n k : Nat) : tgTick (guardAfter n k) = guardAfter n (k + 1) := by
  by_cases hk : n ≤ k
  · rw [tgTick_of_not_counting (.inr (decide_eq_true hk))]
    have hcount : n - k = n - (k + 1) := by omega
    simp [guardAfter, hk, hcount, Nat.le_succ_of_le hk]
  · rw [tgTick_of_counting rfl (decide_eq_false hk)]
    have hzero : n - (k + 1) = 0 ↔ n ≤ k + 1 := by omega
    simp only [guardAfter, Nat.sub_sub, hzero]

/-- Under ON_EXPIRY the tick after `k` ticks wakes exactly where it is the `n`-th. -/
theorem tgWake_guardAfter {c : Params} (hc : c.tickWake = .onExpiry) (n k : Nat) :
    tgWake c (guardAfter n k) = decide (k + 1 = n) := by
  by_cases hk : n ≤ k
  · have hne : k + 1 ≠ n := by omega
    rw [tgWake_of_expired c rfl (decide_eq_true hk)]
    simp [hc, hne]
  · have hlast : n - k - 1 = 0 ↔ k + 1 = n := by omega
    rw [tgWake_of_counting c rfl (decide_eq_false hk)]
    exact decide_eq_decide.2 hlast

/-! ### The status operations (R133 to R136) -/

/-- The status byte: bit 0 is the receive-available flag, bit 1 the framing error, and no other bit is set. -/
theorem statusByte_bits (framingError rxAvailable : Bool) :
    (statusByte framingError rxAvailable).getLsbD 0 = rxAvailable
      ∧ (statusByte framingError rxAvailable).getLsbD 1 = framingError
      ∧ (statusByte framingError rxAvailable).toNat < 4 := by
  cases framingError <;> cases rxAvailable <;> decide

theorem exec_swuStatusRead (s : State) : exec .swuStatusRead s = execSwuStatusRead s := rfl
theorem exec_swuStatusClear (s : State) : exec .swuStatusClear s = execSwuStatusClear s := rfl
theorem exec_uartStatusRead (s : State) : exec .uartStatusRead s = execUartStatusRead s := rfl
theorem exec_uartStatusClear (s : State) : exec .uartStatusClear s = execUartStatusClear s := rfl

theorem exec_swuStatusRead_l0 {s : State} (hl : s.fg.label = .l0) :
    exec .swuStatusRead s = .next (setRet (statusByte s.swu.framingError s.swu.rxAvailable) s).done := by
  simp [exec_swuStatusRead, execSwuStatusRead, hl]

theorem exec_swuStatusClear_l0 {s : State} (hl : s.fg.label = .l0) :
    exec .swuStatusClear s = .next (s.setSwu { s.swu with framingError := false, rxAvailable := false }).done := by
  simp [exec_swuStatusClear, execSwuStatusClear, hl]

theorem exec_uartStatusRead_l0 {s : State} (hl : s.fg.label = .l0) :
    exec .uartStatusRead s = .next (setRet (statusByte s.uart.framingError s.uart.rxAvailable) s).done := by
  simp [exec_uartStatusRead, execUartStatusRead, hl]

theorem exec_uartStatusClear_l0 {s : State} (hl : s.fg.label = .l0) :
    exec .uartStatusClear s = .next (s.setUart { s.uart with framingError := false, rxAvailable := false }).done := by
  simp [exec_uartStatusClear, execUartStatusClear, hl]

/-! ### The obligations -/

/-- Settles O20: by induction on the ticks the guard is `guardAfter n k`, whose expiry and wake are read off. -/
theorem timeoutBoundary : Obligations.TimeoutBoundary := by
  intro n w run hn harm hticks
  have hguard : ∀ k, (run k).tg = guardAfter n k := by
    intro k
    induction k with
    | zero => rw [harm, guardAfter_zero hn]
    | succ k ih =>
      obtain ⟨s, htg, -, hlabel, hexec⟩ := hticks k
      rw [exec_tickIsr_k1 hlabel] at hexec
      injection hexec with hrun
      rw [← hrun, ← tgTick_guardAfter, ← ih, ← htg]
      rfl
  intro k
  refine ⟨by simp [hguard, guardAfter], fun hw => ?_⟩
  obtain ⟨s, htg, hwake, hlabel, hexec⟩ := hticks k
  rw [exec_tickIsr_k1 hlabel] at hexec
  injection hexec with hrun
  have hwh : (run (k + 1)).irq.wh = tgWake s.cfg s.tg := by rw [← hrun]; rfl
  rw [hwh, htg, hguard, tgWake_guardAfter (hwake.trans hw), decide_eq_true_iff]

/-- Settles O14: each line's equation, with the guard's tick and wake request in the three cases of K1. -/
theorem tickIsrLines : Obligations.TickIsrLines := by
  intro s
  refine ⟨fun hl => exec_tickIsr_k0 hl, fun hl harmed hexp => ?counting, fun hl harmed hexp => ?expired,
    fun hl harmed => ?unarmed, fun b hl hsaved => ?exit⟩
  case counting =>
    rw [exec_tickIsr_k1 hl, tgTick_of_counting harmed hexp, tgWake_of_counting s.cfg harmed hexp]
    rfl
  case expired =>
    rw [exec_tickIsr_k1 hl, tgTick_of_not_counting (.inr hexp), tgWake_of_expired s.cfg harmed hexp]
    rfl
  case unarmed =>
    rw [exec_tickIsr_k1 hl, tgTick_of_not_counting (.inl harmed), tgWake_of_unarmed s.cfg harmed]
    rfl
  case exit =>
    rw [exec_tickIsr_k2 hl, irqExit_of_saved s.irq.wh hsaved]
    rfl

/-- Settles O17: one micro-step each; a read returns the status byte, whose bits `statusByte_bits` names. -/
theorem statusOperations : Obligations.StatusOperations := fun _ hl =>
  ⟨⟨_, exec_swuStatusRead_l0 hl, statusByte_bits ..⟩, exec_swuStatusClear_l0 hl,
    ⟨_, exec_uartStatusRead_l0 hl, statusByte_bits ..⟩, exec_uartStatusClear_l0 hl⟩

end Sys2Proof.Machine
end

section
/-! PROOFS. The software UART of 41_swuart.md: the deadline comparison, and SWU_PUTC and SWU_GETC line by line. -/

namespace Sys2Proof.Machine

/-! ### The deadline comparison, under each CTR_COMPARE (R151) -/

/-- The model subtracts on `Nat` from a representative that stays positive; it is R151's `(t - dl) mod m`. -/
theorem cast_wrapped_sub {m : Nat} (hm : 0 < m) (t dl : Nat) :
    (((t + m - dl % m) % m : Nat) : Int) = ((t : Int) - dl) % m := by
  have hle : dl % m ≤ t + m := (Nat.mod_lt dl hm).le.trans (Nat.le_add_left m t)
  calc (((t + m - dl % m) % m : Nat) : Int)
      = ((t : Int) - (dl : Int) % m + m) % m := by push_cast [hle]; ring_nf
    _ = ((t : Int) - dl) % m := by rw [Int.add_emod_right, Int.sub_emod_emod]

theorem reached_wrapAware_iff {c : Params} (hc : c.ctrCompare = .wrapAware) (t dl : Nat) :
    reached c t dl = true ↔ ((t : Int) - dl) % 2 ^ c.ctrW < 2 ^ (c.ctrW - 1) := by
  have hsub := cast_wrapped_sub (Nat.two_pow_pos c.ctrW) t dl
  push_cast at hsub
  simp only [reached, hc, decide_eq_true_iff, ← hsub]
  exact_mod_cast Iff.rfl

theorem reached_unsignedGe_iff {c : Params} (hc : c.ctrCompare = .unsignedGe) (t dl : Nat) :
    reached c t dl = true ↔ dl ≤ t := by
  simp [reached, hc]

theorem reached_equal_iff {c : Params} (hc : c.ctrCompare = .equal) (t dl : Nat) :
    reached c t dl = true ↔ t = dl := by
  simp [reached, hc]

/-! ### A hold on the running deadline (R152) -/

theorem holdDeadline_of_reached {s : State} {dl : Nat} (k : State) (hdl : s.swu.dl = .written dl)
    (hr : reached s.cfg s.ctr dl = true) : holdDeadline s k = k := by
  simp [holdDeadline, holdUntil, hdl, hr]

theorem holdDeadline_of_not_reached {s : State} {dl : Nat} (k : State) (hdl : s.swu.dl = .written dl)
    (hr : reached s.cfg s.ctr dl = false) : holdDeadline s k = s := by
  simp [holdDeadline, holdUntil, hdl, hr]

/-! ### SWU_PUTC, one equation per line (R154) -/

theorem exec_swuPutc (b : Byte) (s : State) : exec (.swuPutc b) s = execSwuPutc b s := rfl

theorem exec_swuPutc_l0 {s : State} (b : Byte) (hl : s.fg.label = .l0) :
    exec (.swuPutc b) s =
      .next ((s.setSwu { s.swu with dl := .written s.ctr, sh := .written b }).goto .l1) := by
  simp [exec_swuPutc, execSwuPutc, hl]

theorem exec_swuPutc_l1 {s : State} (b : Byte) (hl : s.fg.label = .l1) :
    exec (.swuPutc b) s = .next ((driveTx false s).goto .l2) := by
  simp [exec_swuPutc, execSwuPutc, hl]

theorem exec_swuPutc_l2 {s : State} {dl : Nat} (b : Byte) (hl : s.fg.label = .l2) (hdl : s.swu.dl = .written dl) :
    exec (.swuPutc b) s = .next ((s.setSwu { s.swu with
      dl := .written ((dl + s.cfg.bitTime) % 2 ^ s.cfg.ctrW), i := .written 0 }).goto .l3) := by
  simp only [exec_swuPutc, execSwuPutc, hl, hdl, fetch_written]
  rfl

theorem exec_swuPutc_l3 {s : State} (b : Byte) (hl : s.fg.label = .l3) :
    exec (.swuPutc b) s = .next (holdDeadline s (s.goto .l4)) := by
  simp [exec_swuPutc, execSwuPutc, hl]

theorem exec_swuPutc_l4 {s : State} {sh : Byte} (b : Byte) (hl : s.fg.label = .l4) (hsh : s.swu.sh = .written sh) :
    exec (.swuPutc b) s =
      .next (((driveTx (sh.getLsbD 0) s).setSwu { s.swu with sh := .written (sh >>> 1) }).goto .l5) := by
  simp only [exec_swuPutc, execSwuPutc, hl, hsh, fetch_written]

theorem exec_swuPutc_l5 {s : State} {dl i : Nat} (b : Byte) (hl : s.fg.label = .l5) (hdl : s.swu.dl = .written dl)
    (hi : s.swu.i = .written i) :
    exec (.swuPutc b) s = .next ((s.setSwu { s.swu with
      dl := .written ((dl + s.cfg.bitTime) % 2 ^ s.cfg.ctrW), i := .written (i + 1) }).goto .l6) := by
  simp only [exec_swuPutc, execSwuPutc, hl, hdl, hi, fetch_written]
  rfl

theorem exec_swuPutc_l6 {s : State} (b : Byte) (hl : s.fg.label = .l6) :
    exec (.swuPutc b) s = .next (holdDeadline s (s.goto .l7)) := by
  simp [exec_swuPutc, execSwuPutc, hl]

theorem exec_swuPutc_l7 {s : State} {i : Nat} (b : Byte) (hl : s.fg.label = .l7) (hi : s.swu.i = .written i) :
    exec (.swuPutc b) s = .next (s.goto (if i < 8 then .l4 else .l8)) := by
  simp [exec_swuPutc, execSwuPutc, hl, hi, apply_ite s.goto]

theorem exec_swuPutc_l8 {s : State} (b : Byte) (hl : s.fg.label = .l8) :
    exec (.swuPutc b) s = .next ((driveTx true s).goto .l9) := by
  simp [exec_swuPutc, execSwuPutc, hl]

theorem exec_swuPutc_l9 {s : State} {dl : Nat} (b : Byte) (hl : s.fg.label = .l9) (hdl : s.swu.dl = .written dl) :
    exec (.swuPutc b) s = .next ((addDeadline dl s.cfg.bitTime s).goto .l10) := by
  simp [exec_swuPutc, execSwuPutc, hl, hdl]

theorem exec_swuPutc_l10 {s : State} (b : Byte) (hl : s.fg.label = .l10) :
    exec (.swuPutc b) s = .next (holdDeadline s s.done) := by
  simp [exec_swuPutc, execSwuPutc, hl]

/-- The three holds of SWU_PUTC, before the deadline: the foreground stays at its line. -/
theorem exec_swuPutc_of_not_reached {s : State} {dl : Nat} (b : Byte) (hl : s.fg.label ∈ [Label.l3, .l6, .l10])
    (hdl : s.swu.dl = .written dl) (hr : reached s.cfg s.ctr dl = false) : exec (.swuPutc b) s = .next s := by
  simp only [List.mem_cons, List.not_mem_nil, or_false] at hl
  obtain hl | hl | hl := hl
  · rw [exec_swuPutc_l3 b hl, holdDeadline_of_not_reached _ hdl hr]
  · rw [exec_swuPutc_l6 b hl, holdDeadline_of_not_reached _ hdl hr]
  · rw [exec_swuPutc_l10 b hl, holdDeadline_of_not_reached _ hdl hr]

/-! ### SWU_GETC, one equation per line (R157) -/

theorem orBit_eq_ite (acc : Byte) (b : Bool) (i : Nat) :
    orBit acc b i = if b then acc ||| ((1 : Byte) <<< i) else acc := by
  cases b with
  | false => simp [orBit]
  | true => rfl

theorem exec_swuGetc (s : State) : exec .swuGetc s = execSwuGetc s := rfl

theorem exec_swuGetc_l0 {s : State} (hl : s.fg.label = .l0) :
    exec .swuGetc s = .next (holdUntil (!s.line.rx) s (s.goto .l1)) := by
  simp [exec_swuGetc, execSwuGetc, hl]

theorem exec_swuGetc_l1 {s : State} (hl : s.fg.label = .l1) :
    exec .swuGetc s = .next ((s.setSwu { s.swu with
      dl := .written ((s.ctr + s.cfg.rxStartDelay) % 2 ^ s.cfg.ctrW), acc := .written 0, i := .written 0 }).goto .l2) := by
  simp only [exec_swuGetc, execSwuGetc, hl]
  rfl

theorem exec_swuGetc_l2 {s : State} (hl : s.fg.label = .l2) :
    exec .swuGetc s = .next (holdDeadline s (s.goto .l3)) := by
  simp [exec_swuGetc, execSwuGetc, hl]

theorem exec_swuGetc_l3 {s : State} {dl : Nat} (hl : s.fg.label = .l3) (hdl : s.swu.dl = .written dl) :
    exec .swuGetc s = .next ((addDeadline dl s.cfg.bitTime s).goto .l4) := by
  simp [exec_swuGetc, execSwuGetc, hl, hdl]

theorem exec_swuGetc_l4 {s : State} (hl : s.fg.label = .l4) :
    exec .swuGetc s = .next (holdDeadline s (s.goto .l5)) := by
  simp [exec_swuGetc, execSwuGetc, hl]

theorem exec_swuGetc_l5 {s : State} {acc : Byte} {i : Nat} (hl : s.fg.label = .l5)
    (hacc : s.swu.acc = .written acc) (hi : s.swu.i = .written i) :
    exec .swuGetc s = .next (((sampleRx s).setSwu
      { s.swu with acc := .written (orBit acc s.line.rx i), i := .written (i + 1) }).goto .l6) := by
  simp only [exec_swuGetc, execSwuGetc, hl, hacc, hi, fetch_written]

theorem exec_swuGetc_l6 {s : State} {i : Nat} (hl : s.fg.label = .l6) (hi : s.swu.i = .written i) :
    exec .swuGetc s = .next (s.goto (if i < 8 then .l3 else .l7)) := by
  simp [exec_swuGetc, execSwuGetc, hl, hi, apply_ite s.goto]

theorem exec_swuGetc_l7 {s : State} {dl : Nat} (hl : s.fg.label = .l7) (hdl : s.swu.dl = .written dl) :
    exec .swuGetc s = .next ((addDeadline dl s.cfg.bitTime s).goto .l8) := by
  simp [exec_swuGetc, execSwuGetc, hl, hdl]

theorem exec_swuGetc_l8 {s : State} (hl : s.fg.label = .l8) :
    exec .swuGetc s = .next (holdDeadline s (s.goto .l9)) := by
  simp [exec_swuGetc, execSwuGetc, hl]

theorem exec_swuGetc_l9 {s : State} (hl : s.fg.label = .l9) :
    exec .swuGetc s = .next (((sampleRx s).setSwu
      { s.swu with framingError := s.swu.framingError || !s.line.rx }).goto .l10) := by
  simp only [exec_swuGetc, execSwuGetc, hl]

theorem exec_swuGetc_l10 {s : State} {acc : Byte} (hl : s.fg.label = .l10) (hacc : s.swu.acc = .written acc) :
    exec .swuGetc s = .next ((setRet acc s).setSwu { s.swu with rxAvailable := true }).done := by
  simp only [exec_swuGetc, execSwuGetc, hl, hacc, fetch_written]

/-- The three deadline holds of SWU_GETC, before the deadline: the foreground stays at its line. -/
theorem exec_swuGetc_of_not_reached {s : State} {dl : Nat} (hl : s.fg.label ∈ [Label.l2, .l4, .l8])
    (hdl : s.swu.dl = .written dl) (hr : reached s.cfg s.ctr dl = false) : exec .swuGetc s = .next s := by
  simp only [List.mem_cons, List.not_mem_nil, or_false] at hl
  obtain hl | hl | hl := hl
  · rw [exec_swuGetc_l2 hl, holdDeadline_of_not_reached _ hdl hr]
  · rw [exec_swuGetc_l4 hl, holdDeadline_of_not_reached _ hdl hr]
  · rw [exec_swuGetc_l8 hl, holdDeadline_of_not_reached _ hdl hr]

/-- G9's two readings: a low stop bit sets the framing error, a high one leaves it. -/
theorem framingError_after_stop (framingError rx : Bool) :
    (framingError || !rx) = if rx = false then true else framingError := by
  cases rx <;> simp

/-! ### The obligations -/

/-- Settles O23: each CTR_COMPARE by its own lemma. -/
theorem deadlineReached : Obligations.DeadlineReached := fun _ t dl _ _ =>
  ⟨fun hc => reached_wrapAware_iff hc t dl, fun hc => reached_unsignedGe_iff hc t dl,
    fun hc => reached_equal_iff hc t dl⟩

/-- Settles O21: each line's equation; at the three holds, the deadline decides. -/
theorem swuPutcLines : Obligations.SwuPutcLines := by
  intro b s
  refine ⟨exec_swuPutc_l0 b, exec_swuPutc_l1 b, fun _ hl hsh => exec_swuPutc_l4 b hl hsh,
    fun _ hl hi => exec_swuPutc_l7 b hl hi, exec_swuPutc_l8 b, fun dl hdl => ?_⟩
  refine ⟨fun hl => exec_swuPutc_l2 b hl hdl, fun _ hl hi => exec_swuPutc_l5 b hl hdl hi,
    fun hl => exec_swuPutc_l9 b hl hdl, fun hl hr => exec_swuPutc_of_not_reached b hl hdl hr,
    fun hl hr => ?startBit, fun hl hr => ?dataBit, fun hl hr => ?stopBit⟩
  case startBit => rw [exec_swuPutc_l3 b hl, holdDeadline_of_reached _ hdl hr]; rfl
  case dataBit => rw [exec_swuPutc_l6 b hl, holdDeadline_of_reached _ hdl hr]; rfl
  case stopBit => rw [exec_swuPutc_l10 b hl, holdDeadline_of_reached _ hdl hr]; rfl

/-- Settles O22: each line's equation; the start edge and the deadlines decide at the holds, and the samples of G5 and G9
are read as R157 writes them. -/
theorem swuGetcLines : Obligations.SwuGetcLines := by
  intro s
  refine ⟨fun hl hrx => ?idle, fun hl hrx => ?startEdge, exec_swuGetc_l1, fun dl hdl => ?deadlines,
    fun acc i hl hacc hi => ?sample, fun _ hl hi => exec_swuGetc_l6 hl hi, fun hl => ?stop,
    fun _ hl hacc => exec_swuGetc_l10 hl hacc⟩
  case idle => simp [exec_swuGetc_l0 hl, holdUntil, hrx]
  case startEdge => rw [exec_swuGetc_l0 hl, hrx]; rfl
  case sample => rw [exec_swuGetc_l5 hl hacc hi, orBit_eq_ite]; rfl
  case stop => rw [exec_swuGetc_l9 hl, framingError_after_stop]; rfl
  case deadlines =>
    refine ⟨fun hl hr => exec_swuGetc_of_not_reached hl hdl hr, fun hl hr => ?delay,
      fun hl => exec_swuGetc_l3 hl hdl, fun hl hr => ?dataBit, fun hl => exec_swuGetc_l7 hl hdl, fun hl hr => ?stopBit⟩
    case delay => rw [exec_swuGetc_l2 hl, holdDeadline_of_reached _ hdl hr]; rfl
    case dataBit => rw [exec_swuGetc_l4 hl, holdDeadline_of_reached _ hdl hr]; rfl
    case stopBit => rw [exec_swuGetc_l8 hl, holdDeadline_of_reached _ hdl hr]; rfl

end Sys2Proof.Machine
end

section
/-! PROOFS. The UART driver of 42_uart.md: the baud values with their bound, and UART_GETC line by line. -/

namespace Sys2Proof

/-! ### The baud values (R180) and the bound on BAUD_MOD (R181) -/

/-- The remainder R180 writes as a difference is the remainder of the division, at `S_A = 0` too. -/
theorem Params.baudRem_eq_mod (c : Params) : c.baudRem = c.freq c.clkA % c.sA :=
  (Nat.mod_eq_sub_div_mul ..).symm

theorem Params.baudDiv_mul_add_baudRem (c : Params) : c.baudDiv * c.sA + c.baudRem = c.freq c.clkA := by
  rw [Params.baudRem_eq_mod]
  exact Nat.div_add_mod' ..

/-- R181's reason for the bound: `m_raw` is at most 7 because BAUD_REM is below S_A. -/
theorem Params.baudRaw_le_seven {c : Params} (hsA : 0 < c.sA) : c.baudRaw ≤ 7 := by
  have hrem : c.baudRem < c.sA := by
    rw [Params.baudRem_eq_mod]
    exact Nat.mod_lt _ hsA
  have hraw : c.baudRaw < 8 := Nat.div_lt_of_lt_mul (by omega)
  omega

theorem Params.baudMod_of_elseOnly {c : Params} (hfrac : c.baudFrac10 < 5) (hd : c.baudDouble = .elseOnly) :
    c.baudMod = c.baudRaw := by
  simp [Params.baudMod, hfrac, hd]

theorem Params.baudMod_of_always {c : Params} (hfrac : c.baudFrac10 < 5) (hd : c.baudDouble = .always) :
    c.baudMod = 2 * c.baudRaw := by
  simp [Params.baudMod, hfrac, hd]

theorem Params.baudMod_of_roundUp {c : Params} (hfrac : ¬ c.baudFrac10 < 5) : c.baudMod = 2 * (c.baudRaw + 1) :=
  if_neg hfrac

/-- Whatever the rounding and the doubling, BAUD_MOD is at most what the round-up branch gives. -/
theorem Params.baudMod_le (c : Params) : c.baudMod ≤ 2 * (c.baudRaw + 1) := by
  by_cases hfrac : c.baudFrac10 < 5
  · cases hd : c.baudDouble
    case elseOnly => have hmod := Params.baudMod_of_elseOnly hfrac hd; omega
    case always => have hmod := Params.baudMod_of_always hfrac hd; omega
  · exact (Params.baudMod_of_roundUp hfrac).le

end Sys2Proof

namespace Sys2Proof.Machine

/-! ### UART_GETC, one equation per line (R194) -/

theorem requireLive_of_live {live : Bool} (s k : State) (hlive : live = true) : requireLive live s k = k := by
  simp [requireLive, hlive]

theorem exec_uartGetc (tmo : Option (BitVec 16)) (s : State) : exec (.uartGetc tmo) s = execUartGetc tmo s := rfl

theorem exec_uartGetc_l0 {s : State} (tmo : Option (BitVec 16)) (hl : s.fg.label = .l0) (hlive : s.ueng.live = true) :
    exec (.uartGetc tmo) s = .next ((s.setUart { s.uart with rxCount := 0 }).goto .l1) := by
  simp [exec_uartGetc, execUartGetc, hl, requireLive_of_live _ _ hlive]

theorem exec_uartGetc_l1 {s : State} (tmo : Option (BitVec 16)) (hl : s.fg.label = .l1) :
    exec (.uartGetc tmo) s = .next ((s.setUart { s.uart with rxAvailable := false }).goto .w0) := by
  simp [exec_uartGetc, execUartGetc, hl]

/-- G3 reads the counter again: where it is 1 the byte is available, and where it is not the flag stays. -/
theorem exec_uartGetc_l3 {s : State} (tmo : Option (BitVec 16)) (hl : s.fg.label = .l3) :
    exec (.uartGetc tmo) s = .next ((s.setUart { s.uart with
      rxAvailable := if s.uart.rxCount = 1 then true else s.uart.rxAvailable }).goto .l4) := by
  simp only [exec_uartGetc, execUartGetc, hl]
  by_cases hcount : s.uart.rxCount = 1
  · rw [if_pos hcount, if_pos hcount]
  · rw [if_neg hcount, if_neg hcount]
    rfl

theorem exec_uartGetc_l4 {s : State} (tmo : Option (BitVec 16)) (hl : s.fg.label = .l4) :
    exec (.uartGetc tmo) s = .next (setRet s.uart.rxByte s).done := by
  simp [exec_uartGetc, execUartGetc, hl]

/-- The WAIT between G1 and G3: for the counter to be 1, under the operation's own timeout. -/
theorem waitOf_uartGetc (s : State) (tmo : Option (BitVec 16)) :
    waitOf s (.uartGetc tmo) = some (decide (s.uart.rxCount = 1), tmoOp tmo, .l3) := by
  rw [waitOf, beq_eq_decide]

/-! ### The obligations -/

/-- Settles O26: the remainder of the division gives each of R180's values, and the bound is that of the round-up branch
with `m_raw` at most 7. -/
theorem baudValues : Obligations.BaudValues := by
  intro c m r f hsA hm hr hf
  have hraw : c.baudRaw = m := by rw [hm, ← c.baudRem_eq_mod]; rfl
  have hresid : c.baudResid = r := by rw [hr, ← c.baudRem_eq_mod]; rfl
  have hfrac : c.baudFrac10 = f := by rw [hf, ← hresid]; rfl
  refine ⟨rfl, c.baudRem_eq_mod, c.baudDiv_mul_add_baudRem, ?_, ?_⟩
  · rw [← hfrac, ← hraw]; rfl
  · calc c.baudMod ≤ 2 * (c.baudRaw + 1) := c.baudMod_le
      _ ≤ 16 := by have := Params.baudRaw_le_seven hsA; omega

/-- Settles O33: each line's equation, and the condition WAIT is called with. -/
theorem uartGetcLines : Obligations.UartGetcLines := fun tmo s =>
  ⟨exec_uartGetc_l0 tmo, exec_uartGetc_l1 tmo, exec_uartGetc_l3 tmo, exec_uartGetc_l4 tmo, waitOf_uartGetc s tmo⟩

end Sys2Proof.Machine
end

section
/-! PROOFS. The interrupts of 60_exceptions.md: the request of each vector and its acceptance, the entry of a vector, and
DISPATCH line by line with its exit. -/

namespace Sys2Proof.Machine

/-! ### Requests and acceptance (R322, R323, R325) -/

@[simp] theorem isOne_iff (r : Reg Bool) : isOne r = true ↔ r = .written true := beq_iff_eq

/-- R322's form of a source's term: its flag and its enable bit. -/
theorem isOne_and_isOne_iff (flag ie : Reg Bool) :
    (isOne flag && isOne ie) = true ↔ flag = .written true ∧ ie = .written true := by
  rw [Bool.and_eq_true, isOne_iff, isOne_iff]

theorem reqUartTx_iff (s : State) :
    reqUartTx s = true ↔ s.ueng.txReady = .written true ∧ s.ueng.txIe = .written true := isOne_and_isOne_iff ..

theorem reqUartRx_iff (s : State) :
    reqUartRx s = true ↔ s.ueng.rxReady = .written true ∧ s.ueng.rxIe = .written true := isOne_and_isOne_iff ..

theorem reqI2cTx_iff (s : State) :
    reqI2cTx s = true ↔ s.ieng.txReady = .written true ∧ s.ieng.txIe = .written true := isOne_and_isOne_iff ..

theorem reqI2cRx_iff (s : State) :
    reqI2cRx s = true ↔ s.ieng.rxReady = .written true ∧ s.ieng.rxIe = .written true := isOne_and_isOne_iff ..

theorem reqI2cNack_iff (s : State) :
    reqI2cNack s = true ↔ s.ieng.nack = .written true ∧ s.ieng.nackIe = .written true := isOne_and_isOne_iff ..

theorem req_vm_iff (s : State) :
    req s .vm = true ↔ s.cfg.vectorMap = .onePerModule ∧
      (reqUartTx s = true ∨ reqUartRx s = true ∨ reqI2cTx s = true ∨ reqI2cRx s = true ∨ reqI2cNack s = true) := by
  simp [req, or_assoc]

theorem req_vmTx_iff (s : State) :
    req s .vmTx = true ↔ s.cfg.vectorMap = .splitTxRx ∧ (reqUartTx s = true ∨ reqI2cTx s = true) := by
  simp [req]

theorem req_vmRx_iff (s : State) :
    req s .vmRx = true ↔ s.cfg.vectorMap = .splitTxRx ∧
      (reqUartRx s = true ∨ reqI2cRx s = true ∨ reqI2cNack s = true) := by
  simp [req, or_assoc]

theorem acceptable_iff (s : State) (v : Vec) :
    acceptable s v = true ↔ s.cpu.ctx = .fg ∧ s.cpu.gie = true ∧ req s v = true := by
  simp [acceptable, and_assoc]

/-! ### The entry of a vector (R327) -/

theorem stopped_iff (s : State) (a : Agent) : stopped s a = true ↔ Faulted a s := by
  simp [stopped, Faulted]

theorem enterStep_of_acceptable {s : State} {v : Vec} (hacc : acceptable s v = true) (hrun : ¬ Faulted .irq s) :
    enterStep v s = irqEnter v s := by
  have hstop : stopped s .irq = false := by rw [← Bool.not_eq_true, stopped_iff]; exact hrun
  simp [enterStep, hacc, hstop]

/-- The first operation of an entered vector: TICK_ISR in the tick vector, else the dispatcher of the vector. -/
theorem irqInstr_irqEnter (v : Vec) (s : State) :
    irqInstr (irqEnter v s) = some (if v = .vt then .tickIsr else .dispatch (vecNum v)) := by
  cases v <;> rfl

/-! ### DISPATCH, one equation per line (R330, R338) -/

theorem exec_dispatch (num : Byte) (s : State) : exec (.dispatch num) s = execDispatch num s := rfl

section

variable {num : Byte} {s : State} {v : Vec} {j : Nat} {w : Bool}
  (hctx : s.cpu.ctx = .irq v j w) (hnum : vecOf s.cfg num = some v)
include hctx hnum

/-- At D0 the index decides: a handler of the order is called at its first label, and past the order stands the exit. -/
theorem exec_dispatch_d0 (hl : s.irq.label = .d0) :
    exec (.dispatch num) s = .next (s.irqGoto ((s.cfg.dispatchOrder v)[j]?.elim .d3 handlerEntry)) := by
  cases hj : (s.cfg.dispatchOrder v)[j]? <;> simp [exec_dispatch, execDispatch, hctx, hnum, hl, hj]

theorem exec_dispatch_d2 (hl : s.irq.label = .d2) :
    exec (.dispatch num) s =
      .next ((s.setCpu { s.cpu with ctx := .irq v (j + 1) (w || s.irq.wh) }).irqGoto
        (if s.cfg.shortCircuit = true ∧ (w || s.irq.wh) = true then .d3 else .d0)) := by
  simp [exec_dispatch, execDispatch, hctx, hnum, hl]

theorem exec_dispatch_d3 (hl : s.irq.label = .d3) : exec (.dispatch num) s = .next (irqExit w s) := by
  simp [exec_dispatch, execDispatch, hctx, hnum, hl]

end

/-! ### The obligations -/

/-- Settles O11: each vector's disjunction, with each source's term read by its own lemma. -/
theorem interruptRequests : Obligations.InterruptRequests := by
  intro s
  simp only [← reqUartTx_iff, ← reqUartRx_iff, ← reqI2cTx_iff, ← reqI2cRx_iff, ← reqI2cNack_iff]
  exact ⟨req_vm_iff s, req_vmTx_iff s, req_vmRx_iff s, Iff.rfl, acceptable_iff s⟩

/-- Settles O10: an acceptable vector's choice takes `irqEnter`, which stands at the body of the vector. -/
theorem interruptEntry : Obligations.InterruptEntry := by
  intro s t v hmoves hrun hctx hgie hreq
  have hacc : acceptable t v = true := (acceptable_iff t v).2 ⟨hctx, hgie, hreq⟩
  have hstep : step s = .next (irqEnter v t) := by
    rw [step_of_moves hmoves, ← enterStep_of_acceptable hacc hrun]
    rfl
  exact ⟨irqEnter v t, hstep, irqEnter_eq v t, irqInstr_irqEnter v t⟩

/-- Settles O12: each line's equation; at D0 the order's entry at the index is absent or names the handler, and at D3 the
saved sleep is written. -/
theorem dispatchLines : Obligations.DispatchLines := by
  intro num s v j w hctx hnum
  refine ⟨fun hl hlen => ?orderDone, fun h hl hj => ?call, fun hl => exec_dispatch_d2 hctx hnum hl,
    fun b hl hsaved => ?exit⟩
  case orderDone =>
    rw [exec_dispatch_d0 hctx hnum hl, List.getElem?_eq_none hlen]
    rfl
  case call =>
    rw [exec_dispatch_d0 hctx hnum hl, hj]
    cases h <;> rfl
  case exit =>
    rw [exec_dispatch_d3 hctx hnum hl, irqExit_of_saved w hsaved]
    rfl

end Sys2Proof.Machine
end

section
/-! PROOFS. The encoding of 30_encoding.md: decoding against encoding in both directions, the opcode table, and the operands
with their ranges. -/

namespace Sys2Proof

/-! ### Encoded operations (R100 to R103) -/

/-- The architect's row of every operation, over the whole syntax. -/
theorem encodedRow (i : Instr) : Laws.EncodedRow.Statement i := by
  cases i with
  | swuPutc b => exact Laws.EncodedRow.swuPutc b
  | swuGetc => exact Laws.EncodedRow.swuGetc
  | swuStatusRead => exact Laws.EncodedRow.swuStatusRead
  | swuStatusClear => exact Laws.EncodedRow.swuStatusClear
  | uartInit => exact Laws.EncodedRow.uartInit
  | uartEnable => exact Laws.EncodedRow.uartEnable
  | uartDisable => exact Laws.EncodedRow.uartDisable
  | uartTransfer p n tmo => exact Laws.EncodedRow.uartTransfer p n tmo
  | uartPutc b tmo => exact Laws.EncodedRow.uartPutc b tmo
  | uartPuts p tmo => exact Laws.EncodedRow.uartPuts p tmo
  | uartGetc tmo => exact Laws.EncodedRow.uartGetc tmo
  | uartStatusRead => exact Laws.EncodedRow.uartStatusRead
  | uartStatusClear => exact Laws.EncodedRow.uartStatusClear
  | uartHandleTxIrq => exact Laws.EncodedRow.uartHandleTxIrq
  | uartHandleRxIrq => exact Laws.EncodedRow.uartHandleRxIrq
  | i2cInit => exact Laws.EncodedRow.i2cInit
  | i2cEnable => exact Laws.EncodedRow.i2cEnable
  | i2cDisable => exact Laws.EncodedRow.i2cDisable
  | i2cTransfer dir a p n tmo => exact Laws.EncodedRow.i2cTransfer dir a p n tmo
  | i2cSend a p n tmo => exact Laws.EncodedRow.i2cSend a p n tmo
  | i2cReceive a p n tmo => exact Laws.EncodedRow.i2cReceive a p n tmo
  | i2cHandleTxIrq => exact Laws.EncodedRow.i2cHandleTxIrq
  | i2cHandleRxIrq => exact Laws.EncodedRow.i2cHandleRxIrq
  | dispatch v => exact Laws.EncodedRow.dispatch v
  | tickIsr => exact Laws.EncodedRow.tickIsr

theorem decode_ok_iff (d : Desc) (i : Instr) :
    decode d = .ok i ↔ ∃ row, opcodeRow (fieldsOf d).op = some row
      ∧ formatClean row.1 (fieldsOf d) = true ∧ row.2 (fieldsOf d) = i := by
  cases hrow : opcodeRow (fieldsOf d).op with
  | none => simp [decode, hrow]
  | some row => by_cases hclean : formatClean row.1 (fieldsOf d) = true <;> simp [decode, hrow, hclean]

theorem decode_of_no_row {d : Desc} (h : opcodeRow (fieldsOf d).op = none) : decode d = .error .unassignedOpcode := by
  simp [decode, h]

theorem decode_of_not_clean {d : Desc} {row : Format × (Fields → Instr)} (hrow : opcodeRow (fieldsOf d).op = some row)
    (hclean : formatClean row.1 (fieldsOf d) = false) : decode d = .error .reservedField := by
  simp [decode, hrow, hclean]

/-- Fields are determined by the descriptor and determine it (R100). -/
theorem fieldsOf_injective {d e : Desc} (h : fieldsOf d = fieldsOf e) : d = e := by
  rw [← packFields_fieldsOf d, h, packFields_fieldsOf]

theorem fieldsOf_encode (i : Instr) : fieldsOf (encode i) = encodeFields i := fieldsOf_packFields _

/-! ### Encoding what a clean descriptor names -/

@[simp] theorem withTmo_op (tmo : Option (BitVec 16)) (f : Fields) : (withTmo tmo f).op = f.op := by cases tmo <;> rfl

/-- A timeout operand read from a clean pair of fields and put back over cleared ones is that pair. -/
theorem withTmo_tmoOf {f g : Fields} (hclean : f.tp = false → f.tmo = 0)
    (hg : g = { f with tp := false, tmo := 0 }) : withTmo (tmoOf f) g = f := by
  obtain ⟨op, dir, tp, res1, addr7, res2, byte, ptr, n, tmo⟩ := f
  subst hg
  cases tp
  · simp only at hclean
    simp [tmoOf, withTmo, hclean]
  · simp [tmoOf, withTmo]

theorem dirBit_dirOf (f : Fields) : dirBit (dirOf f) = f.dir := by
  cases h : f.dir <;> simp [dirOf, dirBit, h]

/-- What a clean descriptor leaves 0, read off its format (R101, R105). -/
structure CleanFields (fmt : Format) (f : Fields) : Prop where
  res1 : f.res1 = 0
  res2 : f.res2 = false
  dir : usesDir fmt = false → f.dir = false
  tp : usesTmo fmt = false → f.tp = false
  tmo : f.tp = false → f.tmo = 0
  addr7 : usesAddr fmt = false → f.addr7 = 0
  byte : usesByte fmt = false → f.byte = 0
  ptr : usesPtr fmt = false → f.ptr = 0
  n : usesCount fmt = false → f.n = 0

theorem formatClean_iff (fmt : Format) (f : Fields) : formatClean fmt f = true ↔ CleanFields fmt f := by
  simp only [formatClean, Bool.and_eq_true, Bool.or_eq_true, beq_iff_eq]
  constructor
  · rintro ⟨⟨⟨⟨⟨⟨⟨⟨hres1, hres2⟩, hdir⟩, htp⟩, htmo⟩, haddr⟩, hbyte⟩, hptr⟩, hn⟩
    exact ⟨hres1, hres2, fun h => hdir.resolve_left (by simp [h]), fun h => htp.resolve_left (by simp [h]),
      fun h => htmo.resolve_left (by simp [h]), fun h => haddr.resolve_left (by simp [h]),
      fun h => hbyte.resolve_left (by simp [h]), fun h => hptr.resolve_left (by simp [h]),
      fun h => hn.resolve_left (by simp [h])⟩
  · rintro ⟨hres1, hres2, hdir, htp, htmo, haddr, hbyte, hptr, hn⟩
    have used (b : Bool) {p : Prop} (h : b = false → p) : b = true ∨ p := by cases b <;> simp_all
    exact ⟨⟨⟨⟨⟨⟨⟨⟨hres1, hres2⟩, used _ hdir⟩, used _ htp⟩, used _ htmo⟩, used _ haddr⟩, used _ hbyte⟩, used _ hptr⟩,
      used _ hn⟩

/-- The operation a row builds from clean fields is encoded in those very fields: each used field is an operand, and each
other one is 0 on both sides. -/
theorem encodeFields_of_row {f : Fields} {row : Format × (Fields → Instr)} (hrow : opcodeRow f.op = some row)
    (hclean : formatClean row.1 f = true) : encodeFields (row.2 f) = f := by
  obtain ⟨hres1, hres2, hdir, htp, htmo, haddr, hbyte, hptr, hn⟩ := (formatClean_iff _ _).1 hclean
  obtain ⟨op, dir, tp, res1, addr7, res2, byte, ptr, n, tmo⟩ := f
  simp only at hrow hres1 hres2 hdir htp htmo haddr hbyte hptr hn
  unfold opcodeRow at hrow
  split at hrow <;> cases hrow <;>
    simp only [usesDir, usesTmo, usesAddr, usesByte, usesPtr, usesCount, reduceCtorEq, forall_const,
      IsEmpty.forall_iff] at hdir htp haddr hbyte hptr hn <;> subst_vars
  all_goals first
    | (simp only [forall_const] at htmo; subst htmo; rfl)
    | exact withTmo_tmoOf htmo (by simp [opOnly, dirBit_dirOf])

/-! ### The opcode table (R103) -/

theorem opcodeRow_isSome_iff (op : BitVec 8) : (opcodeRow op).isSome = true ↔ op ∈ Machine.opcodes := by
  revert op
  decide

/-- An operation's format: the one its opcode's row gives. -/
def formatOf (i : Instr) : Format := ((opcodeRow (encodeFields i).op).map Prod.fst).getD .N

theorem formatOf_of_row {i : Instr} {row : Format × (Fields → Instr)} (h : opcodeRow (encodeFields i).op = some row) :
    formatOf i = row.1 := by
  simp [formatOf, h]

/-- A field of `w` bits that a mask covers wholly or not at all. -/
def maskBits (w : Nat) (covered : Bool) : BitVec w := if covered then BitVec.allOnes w else 0

theorem and_maskBits_eq {w : Nat} (x : BitVec w) (covered : Bool) :
    x &&& maskBits w covered = 0 ↔ (covered = true → x = 0) := by
  cases covered <;> simp [maskBits]

/-- The mask of a format, field by field: it covers the opcode, the reserved bits and the fields the format does not use. -/
def formatMask (fmt : Format) : Fields where
  op := BitVec.allOnes 8
  dir := !usesDir fmt
  tp := !usesTmo fmt
  res1 := maskBits 6 true
  addr7 := maskBits 7 (!usesAddr fmt)
  res2 := true
  byte := maskBits 8 (!usesByte fmt)
  ptr := maskBits 32 (!usesPtr fmt)
  n := maskBits 16 (!usesCount fmt)
  tmo := maskBits 16 (!usesTmo fmt)

/-- The rows of the table are the formats' masks with the opcodes for patterns. -/
theorem fieldsOf_tableRow (i : Instr) :
    fieldsOf (Machine.tableRow i).mask = formatMask (formatOf i)
      ∧ fieldsOf (Machine.tableRow i).pattern = opOnly (encodeFields i).op := by
  cases i <;> simp only [Machine.tableRow, formatOf, encodeFields, withTmo_op] <;> decide

theorem fieldsOf_and (d m : Desc) : fieldsOf (d &&& m) =
    { op := (fieldsOf d).op &&& (fieldsOf m).op, dir := (fieldsOf d).dir && (fieldsOf m).dir,
      tp := (fieldsOf d).tp && (fieldsOf m).tp, res1 := (fieldsOf d).res1 &&& (fieldsOf m).res1,
      addr7 := (fieldsOf d).addr7 &&& (fieldsOf m).addr7, res2 := (fieldsOf d).res2 && (fieldsOf m).res2,
      byte := (fieldsOf d).byte &&& (fieldsOf m).byte, ptr := (fieldsOf d).ptr &&& (fieldsOf m).ptr,
      n := (fieldsOf d).n &&& (fieldsOf m).n, tmo := (fieldsOf d).tmo &&& (fieldsOf m).tmo } := by
  simp [fieldsOf, BitVec.extractLsb'_and]

/-- Selecting the row of an operation is having its opcode and being clean for its format (R101, R103, R105). -/
theorem selects_tableRow_iff (d : Desc) (i : Instr) :
    Machine.selects d (Machine.tableRow i) ↔
      (fieldsOf d).op = (encodeFields i).op ∧ formatClean (formatOf i) (fieldsOf d) = true := by
  obtain ⟨hmask, hpattern⟩ := fieldsOf_tableRow i
  have hfields : d &&& (Machine.tableRow i).mask = (Machine.tableRow i).pattern ↔
      fieldsOf (d &&& (Machine.tableRow i).mask) = opOnly (encodeFields i).op := by
    rw [← hpattern]
    exact ⟨congrArg fieldsOf, fieldsOf_injective⟩
  have htmo : (d.getLsbD 9 = false → d.extractLsb' 80 16 = 0) ↔ ((fieldsOf d).tp = false → (fieldsOf d).tmo = 0) := Iff.rfl
  rw [Machine.selects, hfields, htmo, fieldsOf_and, hmask, formatClean_iff]
  simp only [formatMask, opOnly, Fields.mk.injEq, BitVec.and_allOnes, and_maskBits_eq, Bool.not_eq_true',
    Bool.and_true, Bool.and_eq_false_iff, Bool.not_eq_false', forall_const]
  have covered {b used : Bool} : (b = false ∨ used = true) ↔ (used = false → b = false) := by
    cases b <;> cases used <;> simp
  simp only [covered]
  constructor
  · rintro ⟨⟨hop, hdir, htp, hres1, haddr, hres2, hbyte, hptr, hn, -⟩, htmo⟩
    exact ⟨hop, hres1, hres2, hdir, htp, htmo, haddr, hbyte, hptr, hn⟩
  · rintro ⟨hop, hres1, hres2, hdir, htp, htmo, haddr, hbyte, hptr, hn⟩
    exact ⟨⟨hop, hdir, htp, hres1, haddr, hres2, hbyte, hptr, hn, fun hused => htmo (htp hused)⟩, htmo⟩

/-- Every operation a row can name has that row in the table. -/
theorem opcodeRow_tableRow (i : Instr) :
    ∃ row, opcodeRow (encodeFields i).op = some row ∧ ∀ f, Machine.tableRow (row.2 f) = Machine.tableRow i := by
  cases i <;> simp only [encodeFields, withTmo_op] <;> exact ⟨_, rfl, fun _ => rfl⟩

theorem selects_of_decode {d : Desc} {i : Instr} (h : decode d = .ok i) : Machine.selects d (Machine.tableRow i) := by
  obtain ⟨row, hrow, hclean, rfl⟩ := (decode_ok_iff _ _).1 h
  have hfields := encodeFields_of_row hrow hclean
  rw [selects_tableRow_iff, formatOf_of_row (row := row) (by rw [hfields, hrow]), hfields]
  exact ⟨rfl, hclean⟩

theorem decode_of_selects {d : Desc} {i : Instr} (h : Machine.selects d (Machine.tableRow i)) :
    ∃ j, decode d = .ok j ∧ Machine.tableRow j = Machine.tableRow i := by
  obtain ⟨row, hrow, htable⟩ := opcodeRow_tableRow i
  obtain ⟨hop, hclean⟩ := (selects_tableRow_iff d i).1 h
  rw [formatOf_of_row hrow] at hclean
  exact ⟨_, (decode_ok_iff _ _).2 ⟨row, by rw [hop, hrow], hclean, rfl⟩, htable _⟩

theorem decode_of_not_opcode {d : Desc} (h : (fieldsOf d).op ∉ Machine.opcodes) :
    decode d = .error .unassignedOpcode := by
  rw [← opcodeRow_isSome_iff, Bool.not_eq_true, Option.isSome_eq_false_iff, Option.isNone_iff_eq_none] at h
  exact decode_of_no_row h

theorem decode_of_not_selects {d : Desc} (hop : (fieldsOf d).op ∈ Machine.opcodes)
    (h : ∀ i, ¬ Machine.selects d (Machine.tableRow i)) : decode d = .error .reservedField := by
  obtain ⟨row, hrow⟩ := Option.isSome_iff_exists.1 ((opcodeRow_isSome_iff _).2 hop)
  refine decode_of_not_clean hrow (Bool.eq_false_iff.2 fun hclean => ?_)
  exact h _ (selects_of_decode ((decode_ok_iff _ _).2 ⟨row, hrow, hclean, rfl⟩))

/-! ### Decoding and encoding, in both directions -/

/-- Settles O1: an encoded operation's fields are read back, and they select its row. -/
theorem decodeOfEncode : Obligations.DecodeOfEncode := by
  intro i
  rw [decode_ok_iff, fieldsOf_encode]
  exact encodedRow i

theorem encode_of_decode {d : Desc} {i : Instr} (h : decode d = .ok i) : encode i = d := by
  obtain ⟨row, hrow, hclean, rfl⟩ := (decode_ok_iff _ _).1 h
  rw [encode, encodeFields_of_row hrow hclean, packFields_fieldsOf]

/-- Settles O2: the operation a clean descriptor names is encoded in that descriptor's fields. -/
theorem encodeOfDecode : Obligations.EncodeOfDecode := fun _ _ => encode_of_decode

/-- Settles O3: selecting a row is having its opcode and being clean for its format, which is what the decoder checks. -/
theorem decodeFollowsTheTable : Obligations.DecodeFollowsTheTable :=
  ⟨fun _ _ => selects_of_decode, fun _ _ => decode_of_selects, fun _ => decode_of_not_opcode,
    fun _ => decode_of_not_selects⟩

/-- Settles O5, by evaluating the decoder on the eight descriptors. -/
theorem wordsDecode : Obligations.WordsDecode := by
  unfold Obligations.WordsDecode
  decide

end Sys2Proof

namespace Sys2Proof.Machine

/-! ### Operands and their ranges (R102) -/

theorem tmoOf_withTmo (tmo : Option (BitVec 16)) {f : Fields} (hf : f.tp = false) : tmoOf (withTmo tmo f) = tmo := by
  cases tmo <;> simp [withTmo, tmoOf, hf]

theorem ite_dirBit (dir : Dir) : (if dirBit dir then Dir.send else .recv) = dir := by cases dir <;> rfl

theorem vecOf_isSome_iff (c : Params) (v : Byte) : (vecOf c v).isSome = true ↔
    match c.vectorMap with
    | .onePerModule => v = 0
    | .splitTxRx => v = 0 ∨ v = 1 := by
  cases hmap : c.vectorMap <;> simp only [vecOf, hmap] <;> revert v <;> decide

@[simp] theorem withTmo_ptr (tmo : Option (BitVec 16)) (f : Fields) : (withTmo tmo f).ptr = f.ptr := by cases tmo <;> rfl
@[simp] theorem withTmo_n (tmo : Option (BitVec 16)) (f : Fields) : (withTmo tmo f).n = f.n := by cases tmo <;> rfl
@[simp] theorem withTmo_byte (tmo : Option (BitVec 16)) (f : Fields) : (withTmo tmo f).byte = f.byte := by
  cases tmo <;> rfl
@[simp] theorem withTmo_addr7 (tmo : Option (BitVec 16)) (f : Fields) : (withTmo tmo f).addr7 = f.addr7 := by
  cases tmo <;> rfl
@[simp] theorem withTmo_dir (tmo : Option (BitVec 16)) (f : Fields) : (withTmo tmo f).dir = f.dir := by cases tmo <;> rfl

theorem withTmo_inRange_iff (c : Params) (tmo : Option (BitVec 16)) {f : Fields} (hf : f.tp = false) :
    ((withTmo tmo f).tp = true → (withTmo tmo f).tmo.toNat < 2 ^ c.tmoW) ↔ tmoInRange c tmo = true := by
  cases tmo <;> simp [tmoInRange, tmoOp, withTmo, hf]

/-- The range checks in terms of the descriptor's fields: a field the operation does not use is 0, which is in range. -/
theorem rangeOk_iff (c : Params) (i : Instr) :
    rangeOk c i = true ↔ (encodeFields i).ptr.toNat < 2 ^ c.addrW ∧ (encodeFields i).n.toNat < 2 ^ c.countW
      ∧ ((encodeFields i).tp = true → (encodeFields i).tmo.toNat < 2 ^ c.tmoW)
      ∧ ∀ v, i = .dispatch v → (vecOf c v).isSome = true := by
  cases i <;> simp [rangeOk, ptrInRange, countInRange, encodeFields, opOnly, withTmo_inRange_iff, and_assoc]

theorem currentDesc_of_getElem? {s : State} {d : Desc} (h : s.fg.prog[s.fg.k]? = some d) : currentDesc s = d := by
  simp [currentDesc, List.getD, h]

theorem fgInstr_of_decode_error {s : State} {e : DecodeError} (h : decode (currentDesc s) = .error e) :
    fgInstr s = .error (refusalOf e) := by
  simp [fgInstr, h]

theorem fgInstr_of_not_rangeOk {s : State} {i : Instr} (h : decode (currentDesc s) = .ok i)
    (hrange : ¬ rangeOk s.cfg i = true) : fgInstr s = .error .fieldRange := by
  simp [fgInstr, h, hrange]

theorem fgInstr_of_handler {s : State} {i : Instr} (h : decode (currentDesc s) = .ok i)
    (hrange : rangeOk s.cfg i = true) (hissuer : issuer i = .irq) : fgInstr s = .error .handlerInForeground := by
  simp [fgInstr, h, hrange, hissuer]

theorem fgInstr_ok_iff (s : State) (i : Instr) : fgInstr s = .ok i ↔
    decode (currentDesc s) = .ok i ∧ rangeOk s.cfg i = true ∧ issuer i = .fg := by
  cases hd : decode (currentDesc s) with
  | error e => simp [fgInstr_of_decode_error hd]
  | ok j =>
    by_cases hrange : rangeOk s.cfg j = true
    · cases hissuer : issuer j with
      | fg =>
        have hj : fgInstr s = .ok j := by simp [fgInstr, hd, hrange, hissuer]
        rw [hj]
        simp only [Except.ok.injEq]
        exact ⟨fun h => h ▸ ⟨rfl, hrange, hissuer⟩, fun h => h.1⟩
      | irq =>
        rw [fgInstr_of_handler hd hrange hissuer]
        simp only [reduceCtorEq, Except.ok.injEq, false_iff]
        rintro ⟨rfl, -, hfg⟩
        simp [hissuer] at hfg
    · rw [fgInstr_of_not_rangeOk hd hrange]
      simp only [reduceCtorEq, Except.ok.injEq, false_iff]
      exact fun h => hrange (h.1 ▸ h.2.1)

/-- FIELD_RANGE is the answer exactly where the descriptor decodes and a range check fails (R105; log 12). -/
theorem fgInstr_fieldRange_iff {s : State} {i : Instr} (h : decode (currentDesc s) = .ok i) :
    fgInstr s = .error .fieldRange ↔ ¬ rangeOk s.cfg i = true := by
  refine ⟨fun herr hrange => ?_, fgInstr_of_not_rangeOk h⟩
  cases hissuer : issuer i with
  | fg => rw [(fgInstr_ok_iff s i).2 ⟨h, hrange, hissuer⟩] at herr; cases herr
  | irq => rw [fgInstr_of_handler h hrange hissuer] at herr; cases herr

/-- Settles O4: a decoded descriptor's fields are those its operation is encoded in, so each operand is read off its field;
and the range checks are those of `rangeOk_iff`. -/
theorem operandsOfTheDescriptor : Obligations.OperandsOfTheDescriptor := by
  intro s d i hd hdec
  have hfields : fieldsOf d = encodeFields i := by rw [← encode_of_decode hdec, fieldsOf_encode]
  have hdir : (if d.getLsbD 8 then Dir.send else .recv) = dirOf (encodeFields i) := congrArg dirOf hfields
  have htmo : (if d.getLsbD 9 then some (d.extractLsb' 80 16) else none) = tmoOf (encodeFields i) :=
    congrArg tmoOf hfields
  have haddr : d.extractLsb' 16 7 = (encodeFields i).addr7 := congrArg Fields.addr7 hfields
  have hbyte : d.extractLsb' 24 8 = (encodeFields i).byte := congrArg Fields.byte hfields
  have hptr : d.extractLsb' 32 32 = (encodeFields i).ptr := congrArg Fields.ptr hfields
  have hn : d.extractLsb' 64 16 = (encodeFields i).n := congrArg Fields.n hfields
  have hzero : d.getLsbD 9 = false → d.extractLsb' 80 16 = 0 := (selects_of_decode hdec).2
  have hrange := (fgInstr_fieldRange_iff (s := s) (by rw [currentDesc_of_getElem? hd, hdec])).trans
    (not_congr (rangeOk_iff s.cfg i))
  rw [← hfields] at hrange
  simp only [vecOf_isSome_iff] at hrange
  refine ⟨?_, ?_, ?_, ?_, ?_, ?_, ?i2cFixed, ?_, hzero, hrange, ?onePerModule, ?splitTxRx⟩
  case onePerModule => intro hmap; simp [vecOf, hmap]
  case splitTxRx => intro hmap; simp [vecOf, hmap]
  case i2cFixed =>
    rintro a p n t (rfl | rfl) <;>
      simp only [htmo, haddr, hptr, hn, encodeFields, opOnly, withTmo_addr7, withTmo_ptr, withTmo_n, tmoOf_withTmo, and_self]
  all_goals
    intros
    subst i
    simp only [hdir, htmo, haddr, hbyte, hptr, hn]
    simp [encodeFields, opOnly, tmoOf_withTmo, dirOf, ite_dirBit]

end Sys2Proof.Machine
end

section
/-! PROOFS. The shared primitives of 40_common.md: the clock operations, and WAIT with one equation per line; and the rules
for memory reads, transmit buffers, cursors and claims that the drivers' lines use. -/

namespace Sys2Proof.Machine

/-! ### Stops, memory reads and cursors -/

/-- Where the foreground stands goes into the record of its fault (R58). -/
theorem raise_fg_of_label {s : State} {l : Label} (r : Fault) (hl : s.fg.label = l) :
    s.raise .fg r = { s with fault := s.fault ++ [⟨r, .fg, .fg s.fg.k l⟩] } := by
  subst hl
  rfl

theorem raise_irq_of_label {s : State} {l : IrqLabel} (r : Fault) (hl : s.irq.label = l) :
    s.raise .irq r = { s with fault := s.fault ++ [⟨r, .irq, .irq s.cpu.ctx l⟩] } := by
  subst hl
  rfl

theorem memRead_of_admitted {a : Nat} {s : State} (k : Byte → State) (h : s.admitted a = true) :
    memRead a s k = k (memGet s.mem a) := by
  simp [memRead, h]

theorem memRead_of_not_admitted {a : Nat} {s : State} (k : Byte → State) (h : s.admitted a = false) :
    memRead a s k = s := by
  simp [memRead, h]

/-- The UART engine after a byte was handed to it (R272; log 17). -/
def uartFed (v : Byte) (e : UartEngine) : UartEngine :=
  { e with txbuf := .written v, txreg := .written v, txregFull := .written true, txReady := .written false }

/-- The I2C engine after a byte was handed to it (R293; log 17). -/
def i2cFed (v : Byte) (e : I2cEngine) : I2cEngine :=
  { e with txbuf := .written v, txreg := .written v, txregFull := .written true, txReady := .written false }

section

variable {ag : Agent} {v : Byte} {s : State} {k : State → State}

theorem writeUartTxbuf_of_empty (h : s.ueng.txregFull = .written false) :
    writeUartTxbuf ag v s k = k (s.setUeng (uartFed v s.ueng)) := by
  simp [writeUartTxbuf, uartFed, h]

theorem writeUartTxbuf_of_full (h : s.ueng.txregFull = .written true) :
    writeUartTxbuf ag v s k = s.raise ag .txbufOverwrite := by
  simp [writeUartTxbuf, h]

theorem writeUartTxbuf_of_unwritten (h : s.ueng.txregFull = .unwritten) :
    writeUartTxbuf ag v s k = s.raise ag .unwrittenRead := by
  simp [writeUartTxbuf, h]

theorem writeI2cTxbuf_of_empty (h : s.ieng.txregFull = .written false) :
    writeI2cTxbuf ag v s k = k (s.setIeng (i2cFed v s.ieng)) := by
  simp [writeI2cTxbuf, i2cFed, h]

theorem writeI2cTxbuf_of_full (h : s.ieng.txregFull = .written true) :
    writeI2cTxbuf ag v s k = s.raise ag .txbufOverwrite := by
  simp [writeI2cTxbuf, h]

theorem writeI2cTxbuf_of_unwritten (h : s.ieng.txregFull = .unwritten) :
    writeI2cTxbuf ag v s k = s.raise ag .unwrittenRead := by
  simp [writeI2cTxbuf, h]

end

theorem setTxCursorAfter_of_fits {p : Nat} {s : State} (h : p + 1 < 2 ^ s.cfg.addrW) :
    setTxCursorAfter p s = s.setUart { s.uart with txCursor := p + 1 } := by
  simp [setTxCursorAfter, takeFree, cursorAfter, h]

theorem bumpI2cCursor_of_fits {s : State} (h : s.i2c.cursor + 1 < 2 ^ s.cfg.addrW) :
    bumpI2cCursor s = s.setI2c { s.i2c with cursor := s.i2c.cursor + 1 } := by
  simp [bumpI2cCursor, takeFree, cursorAfter, h]

/-- One past the top of the address space a free value is taken, and counted (log 11). -/
theorem setTxCursorAfter_of_top {p : Nat} {s : State} (h : 2 ^ s.cfg.addrW ≤ p + 1) :
    setTxCursorAfter p s = (s.setSched { s.sched with freed := s.sched.freed + 1 }).setUart
      { s.uart with txCursor := cursorAfter s p } := by
  simp [setTxCursorAfter, takeFree, Nat.not_lt.2 h]

theorem bumpI2cCursor_of_top {s : State} (h : 2 ^ s.cfg.addrW ≤ s.i2c.cursor + 1) :
    bumpI2cCursor s = (s.setSched { s.sched with freed := s.sched.freed + 1 }).setI2c
      { s.i2c with cursor := cursorAfter s s.i2c.cursor } := by
  simp [bumpI2cCursor, takeFree, Nat.not_lt.2 h]

/-! ### Clock claims (R120, R121) -/

/-- The counts after CLAIM, in the form of the statements: a list, and what each clock's count in it is. -/
theorem exists_claim (c : ClockId) (s : State) (f : Fg) :
    ∃ l, (claim c s).setFg f = { s with claims := l, fg := f } ∧ ∀ d, claimCount l d = if d = c
      then (match s.cfg.claimKind with | .counter => claimCount s.claims d + 1 | .boolean => 1)
      else claimCount s.claims d := by
  refine ⟨(claim c s).claims, rfl, fun d => ?_⟩
  rw [(claim_cases c s).2 d]
  by_cases hd : d = c
  · subst hd; rfl
  · simp only [if_neg hd]

theorem release_of_none {ag : Agent} {c : ClockId} {s : State} (k : State → State) (hkind : s.cfg.claimKind = .counter)
    (hcount : claimCount s.claims c = 0) : release ag c s k = s.raise ag .releaseUnderflow := by
  simp [release, hkind, hcount]

/-- RELEASE of a clock that has a count to give back: it never stops the agent. -/
theorem exists_release (ag : Agent) (c : ClockId) (s : State) (k : State → State)
    (hcount : s.cfg.claimKind = .counter → 0 < claimCount s.claims c) :
    ∃ l, release ag c s k = k (s.setClaims l) ∧ ∀ d, claimCount l d = if d = c
      then (match s.cfg.claimKind with | .counter => claimCount s.claims d - 1 | .boolean => 0)
      else claimCount s.claims d := by
  cases hkind : s.cfg.claimKind with
  | counter =>
    have hne : claimCount s.claims c ≠ 0 := (hcount hkind).ne'
    refine ⟨setClaim s.claims c (claimCount s.claims c - 1), by simp [release, hkind, hne], fun d => ?_⟩
    rw [claimCount_setClaim]
    by_cases hd : d = c
    · subst hd; rfl
    · simp only [if_neg hd]
  | boolean =>
    refine ⟨setClaim s.claims c 0, by simp [release, hkind], fun d => ?_⟩
    rw [claimCount_setClaim]

theorem exec_uartEnable_l0 {s : State} (hl : s.fg.label = .l0) :
    exec .uartEnable s = .next (claim s.cfg.clkA s).done := by
  simp [exec, execUartEnable, hl]

theorem exec_i2cEnable_l0 {s : State} (hl : s.fg.label = .l0) :
    exec .i2cEnable s = .next (claim s.cfg.clkB s).done := by
  simp [exec, execI2cEnable, hl]

theorem exec_uartDisable_l0 {s : State} (hl : s.fg.label = .l0) :
    exec .uartDisable s = .next (release .fg s.cfg.clkA s State.done) := by
  simp [exec, execUartDisable, hl]

theorem exec_i2cDisable_l0 {s : State} (hl : s.fg.label = .l0) :
    exec .i2cDisable s = .next (release .fg s.cfg.clkB s State.done) := by
  simp [exec, execI2cDisable, hl]

/-- Settles O16: the two enabling operations are one CLAIM, the two disabling ones one RELEASE. -/
theorem clockOperations : Obligations.ClockOperations := by
  intro s i c hl
  refine ⟨fun h => ?claim, fun h => ?release⟩
  case claim =>
    have hexec : exec i s = .next (claim c s).done := by
      simp only [Prod.mk.injEq] at h
      obtain ⟨rfl, rfl⟩ | ⟨rfl, rfl⟩ := h
      · exact exec_uartEnable_l0 hl
      · exact exec_i2cEnable_l0 hl
    exact ⟨(claim c s).claims, hexec, (claim_cases c s).2⟩
  case release =>
    have hexec : exec i s = .next (release .fg c s State.done) := by
      simp only [Prod.mk.injEq] at h
      obtain ⟨rfl, rfl⟩ | ⟨rfl, rfl⟩ := h
      · exact exec_uartDisable_l0 hl
      · exact exec_i2cDisable_l0 hl
    refine ⟨fun hkind hcount => ?_, fun hcount => ?_⟩
    · rw [hexec, release_of_none _ hkind hcount, raise_fg_of_label _ hl]
    · obtain ⟨l, hrelease, hcounts⟩ := exists_release .fg c s State.done hcount
      refine ⟨l, by rw [hexec, hrelease]; rfl, fun d => ?_⟩
      rw [hcounts d]
      by_cases hd : d = c
      · subst hd; rfl
      · simp only [if_neg hd]

/-! ### WAIT (R130, R131) -/

section

variable {cond : Bool} {tmo : Option Nat} {exit : Label} {s : State}

theorem waitStep_w0_some {t : Nat} (hl : s.fg.label = .w0) (ht : tmo = some t) :
    waitStep cond tmo exit s = (tgArm t s).goto .w1 := by
  simp [waitStep, hl, ht]

theorem waitStep_w0_none (hl : s.fg.label = .w0) (ht : tmo = none) : waitStep cond tmo exit s = s.goto .w1 := by
  simp [waitStep, hl, ht]

theorem waitStep_w1 (hl : s.fg.label = .w1) (ha : s.cfg.waitAtomic = false) :
    waitStep cond tmo exit s = (s.setFg { s.fg with c := cond || tgTriggered tmo s.tg }).goto .w2 := by
  simp [waitStep, hl, ha]

theorem waitStep_w1_leaves (hl : s.fg.label = .w1) (ha : s.cfg.waitAtomic = true)
    (hc : (cond || tgTriggered tmo s.tg) = true) : waitStep cond tmo exit s = s.goto .w5 := by
  simp [waitStep, hl, ha, hc]

theorem waitStep_w1_sleeps (hl : s.fg.label = .w1) (ha : s.cfg.waitAtomic = true)
    (hc : (cond || tgTriggered tmo s.tg) = false) :
    waitStep cond tmo exit s = (s.setCpu { s.cpu with asleep := true }).goto .w4 := by
  simp [waitStep, hl, ha, hc]

theorem waitStep_w2 (hl : s.fg.label = .w2) : waitStep cond tmo exit s = s.goto (if s.fg.c then .w5 else .w3) := by
  simp [waitStep, hl, apply_ite s.goto]

theorem waitStep_w3 (hl : s.fg.label = .w3) :
    waitStep cond tmo exit s = (s.setCpu { s.cpu with asleep := true }).goto .w4 := by
  simp [waitStep, hl]

theorem waitStep_w4_asleep (hl : s.fg.label = .w4) (hs : s.cpu.asleep = true) : waitStep cond tmo exit s = s := by
  simp [waitStep, hl, hs]

theorem waitStep_w4_awake (hl : s.fg.label = .w4) (hs : s.cpu.asleep = false) :
    waitStep cond tmo exit s = s.goto .w1 := by
  simp [waitStep, hl, hs]

theorem waitStep_w5_some (hl : s.fg.label = .w5) (ht : tmo.isSome = true) :
    waitStep cond tmo exit s = (tgDisarm s).goto exit := by
  simp [waitStep, hl, ht]

theorem waitStep_w5_none (hl : s.fg.label = .w5) (ht : tmo = none) : waitStep cond tmo exit s = s.goto exit := by
  simp [waitStep, hl, ht]

end

/-- The micro-step of a timed operation at a line of WAIT is WAIT's own, with the operation's condition, timeout and exit. -/
theorem exec_of_waitOf {i : Instr} {s : State} {cond : Bool} {tmo : Option Nat} {exit : Label}
    (hw : waitOf s i = some (cond, tmo, exit)) (hl : s.fg.label ∈ [Label.w0, .w1, .w2, .w3, .w4, .w5]) :
    exec i s = .next (waitStep cond tmo exit s) := by
  simp only [List.mem_cons, List.not_mem_nil, or_false] at hl
  cases i <;> simp only [waitOf, reduceCtorEq, Option.some.injEq, Prod.mk.injEq] at hw <;>
    obtain ⟨rfl, rfl, rfl⟩ := hw <;>
    obtain hl | hl | hl | hl | hl | hl := hl <;>
    simp only [exec, execUartTransfer, execUartPutc, execUartPuts, execUartGetc, execI2cTransfer, execI2cSend,
      execI2cReceive, i2cTransferStep, hl]

end Sys2Proof.Machine

namespace Sys2Proof

open Machine

/-- Settles O18: at its lines a timed operation takes WAIT's micro-step, and each of those has its equation. -/
theorem waitLines : Obligations.WaitLines := by
  intro i s cond tmo exit hw
  have hexec (l : Label) (hl : s.fg.label = l) (hmem : l ∈ [Label.w0, .w1, .w2, .w3, .w4, .w5]) :
      exec i s = .next (waitStep cond tmo exit s) := exec_of_waitOf hw (hl ▸ hmem)
  refine ⟨fun t hl ht => ?_, fun hl ht => ?_, fun hl ha => ?_, fun hl => ?_, fun hl => ?_, fun hl ha hc => ?_,
    fun hl ha hc => ?_, fun hl hs => ?_, fun hl hs => ?_, fun hl ht => ?_, fun hl ht => ?_⟩ <;>
    rw [hexec _ hl (by decide)]
  · rw [waitStep_w0_some hl ht]; rfl
  · rw [waitStep_w0_none hl ht]; rfl
  · rw [waitStep_w1 hl ha]; rfl
  · rw [waitStep_w2 hl]; rfl
  · rw [waitStep_w3 hl]; rfl
  · rw [waitStep_w1_leaves hl ha hc]; rfl
  · rw [waitStep_w1_sleeps hl ha hc]; rfl
  · rw [waitStep_w4_asleep hl hs]
  · rw [waitStep_w4_awake hl hs]; rfl
  · rw [waitStep_w5_some hl ht]; rfl
  · rw [waitStep_w5_none hl ht]; rfl

end Sys2Proof
end

section
/-! PROOFS. The foreground operations of the two drivers, one equation per line: UART_INIT, UART_TRANSFER, UART_PUTC and
UART_PUTS of 42_uart.md, I2C_INIT and the I2C transfers of 43_i2c.md. -/

namespace Sys2Proof.Machine

/-! ### A well-formed configuration has every register value legal (R150, R181, R220, R363) -/

theorem writeLegal_of_legal {legal : Bool} (s k : State) (h : legal = true) : writeLegal legal s k = k := by
  simp [writeLegal, h]

theorem writeLegal_of_illegal {legal : Bool} (s k : State) (h : legal = false) :
    writeLegal legal s k = s.refuse .illegalRegisterValue := by
  simp [writeLegal, h]

/-- What a well-formed configuration says of the values that the two init operations write. -/
structure LegalValues (c : Params) : Prop where
  baudDiv : (1 ≤ c.baudDiv && c.baudDiv < 2 ^ c.brW) = true
  baudRem : c.baudRem < 2 ^ c.brW
  baudMod : c.baudMod < 2 ^ c.modW
  clkA : c.isClock c.clkA = true
  clkB : c.isClock c.clkB = true
  i2cDiv : (1 ≤ c.i2cDiv && c.i2cDiv < 2 ^ c.brW) = true

theorem legalValues_of_configOk {c : Params} (h : c.configOk = true) : LegalValues c := by
  simp only [Params.configOk, Params.uartOk, Params.i2cOk, Bool.and_eq_true, decide_eq_true_iff] at h
  obtain ⟨⟨-, ⟨⟨⟨⟨-, hclkA⟩, hdiv0⟩, hdiv⟩, hrem⟩, hmod⟩, ⟨⟨-, hclkB⟩, hpresc0⟩, hpresc⟩ := h
  exact ⟨by simp [hdiv, Nat.one_le_iff_ne_zero.2 hdiv0], hrem, hmod, hclkA, hclkB, by simp [hpresc0, hpresc]⟩

/-! ### UART_INIT, one equation per line (R182, R271) -/

theorem writeUartSwrst_false_of_held {s : State} (h : s.ueng.swrst = .written true) :
    writeUartSwrst false s = s.setUeng (uartRelease { s.ueng with swrst := .written false }) := by
  simp [writeUartSwrst, h]

theorem writeUartSwrst_false_of_not_held {s : State} (h : s.ueng.swrst ≠ .written true) :
    writeUartSwrst false s = s.setUeng { s.ueng with swrst := .written false } := by
  simp [writeUartSwrst, h]

section

variable {s : State}

theorem exec_uartInit_l0 (hl : s.fg.label = .l0) : exec .uartInit s = .next ((claim s.cfg.clkA s).goto .l1) := by
  simp [exec, execUartInit, hl]

theorem exec_uartInit_l1 (hl : s.fg.label = .l1) :
    exec .uartInit s = .next ((s.setUeng { s.ueng with swrst := .written true }).goto .l2) := by
  simp [exec, execUartInit, hl, writeUartSwrst_true]

theorem exec_uartInit_l2 (hl : s.fg.label = .l2) : exec .uartInit s = .next
    (writeLegal (1 ≤ s.cfg.baudDiv && s.cfg.baudDiv < 2 ^ s.cfg.brW) s
      ((s.setUeng { s.ueng with brDiv := .written s.cfg.baudDiv }).goto .l3)) := by
  simp [exec, execUartInit, hl]

theorem exec_uartInit_l3 (hl : s.fg.label = .l3) : exec .uartInit s = .next
    (writeLegal (s.cfg.baudRem < 2 ^ s.cfg.brW) s
      ((s.setUeng { s.ueng with brRem := .written s.cfg.baudRem }).goto .l4)) := by
  simp [exec, execUartInit, hl]

theorem exec_uartInit_l4 (hl : s.fg.label = .l4) : exec .uartInit s = .next
    (writeLegal (s.cfg.baudMod < 2 ^ s.cfg.modW) s
      ((s.setUeng { s.ueng with brMod := .written s.cfg.baudMod }).goto .l5)) := by
  simp [exec, execUartInit, hl]

theorem exec_uartInit_l5 (hl : s.fg.label = .l5) : exec .uartInit s = .next
    (writeLegal (s.cfg.isClock s.cfg.clkA) s
      ((s.setUeng { s.ueng with clksel := .written s.cfg.clkA }).goto .l6)) := by
  simp [exec, execUartInit, hl]

theorem exec_uartInit_l6 (hl : s.fg.label = .l6) : exec .uartInit s = .next ((writeUartSwrst false s).goto .l7) := by
  simp [exec, execUartInit, hl]

theorem exec_uartInit_l7 (hl : s.fg.label = .l7) :
    exec .uartInit s = .next ((s.setUeng { s.ueng with txIe := .written true }).goto .l8) := by
  simp [exec, execUartInit, hl]

theorem exec_uartInit_l8 (hl : s.fg.label = .l8) :
    exec .uartInit s = .next (s.setUeng { s.ueng with rxIe := .written true }).done := by
  simp [exec, execUartInit, hl]

/-! ### I2C_INIT, one equation per line (R221, R280) -/

theorem writeI2cSwrst_false_of_held (h : s.ieng.swrst = .written true) :
    writeI2cSwrst false s =
      (s.setIeng (i2cRelease { s.ieng with swrst := .written false })).setI2c { s.i2c with phase := .idle } := by
  simp [writeI2cSwrst, h]

theorem writeI2cSwrst_false_of_not_held (h : s.ieng.swrst ≠ .written true) :
    writeI2cSwrst false s = s.setIeng { s.ieng with swrst := .written false } := by
  simp [writeI2cSwrst, h]

theorem exec_i2cInit_l0 (hl : s.fg.label = .l0) :
    exec .i2cInit s = .next ((s.setIeng { s.ieng with swrst := .written true }).goto .l1) := by
  simp [exec, execI2cInit, hl, writeI2cSwrst_true]

theorem exec_i2cInit_l1 (hl : s.fg.label = .l1) :
    exec .i2cInit s = .next ((s.setIeng { s.ieng with master := .written true }).goto .l2) := by
  simp [exec, execI2cInit, hl]

theorem exec_i2cInit_l2 (hl : s.fg.label = .l2) : exec .i2cInit s = .next
    (writeLegal (s.cfg.isClock s.cfg.clkB) s
      ((s.setIeng { s.ieng with clksel := .written s.cfg.clkB }).goto .l3)) := by
  simp [exec, execI2cInit, hl]

theorem exec_i2cInit_l3 (hl : s.fg.label = .l3) : exec .i2cInit s = .next
    (writeLegal (1 ≤ s.cfg.i2cDiv && s.cfg.i2cDiv < 2 ^ s.cfg.brW) s
      ((s.setIeng { s.ieng with presc := .written s.cfg.i2cDiv }).goto .l4)) := by
  simp [exec, execI2cInit, hl]

theorem exec_i2cInit_l4 (hl : s.fg.label = .l4) : exec .i2cInit s = .next ((writeI2cSwrst false s).goto .l5) := by
  simp [exec, execI2cInit, hl]

theorem exec_i2cInit_l5 (hl : s.fg.label = .l5) :
    exec .i2cInit s = .next ((s.setIeng { s.ieng with txIe := .written true }).goto .l6) := by
  simp [exec, execI2cInit, hl]

theorem exec_i2cInit_l6 (hl : s.fg.label = .l6) :
    exec .i2cInit s = .next ((s.setIeng { s.ieng with rxIe := .written true }).goto .l7) := by
  simp [exec, execI2cInit, hl]

theorem exec_i2cInit_l7 (hl : s.fg.label = .l7) :
    exec .i2cInit s = .next (s.setIeng { s.ieng with nackIe := .written true }).done := by
  simp [exec, execI2cInit, hl]

end

/-- Settles O28: each line's equation; under a well-formed configuration every value is legal, and the release line
releases exactly an engine that is held. -/
theorem initLines : Obligations.InitLines := by
  intro s hok
  obtain ⟨hdiv, hrem, hmod, hclkA, hclkB, hpresc⟩ := legalValues_of_configOk hok
  refine ⟨fun hl => ?claim, exec_uartInit_l1, fun hl => ?brDiv, fun hl => ?brRem, fun hl => ?brMod, fun hl => ?clkA,
    fun hl hheld => ?uartRelease, fun hl hfree => ?uartFree, exec_uartInit_l7, exec_uartInit_l8, exec_i2cInit_l0,
    exec_i2cInit_l1, fun hl => ?clkB, fun hl => ?presc, fun hl hheld => ?i2cRelease, fun hl hfree => ?i2cFree,
    exec_i2cInit_l5, exec_i2cInit_l6, exec_i2cInit_l7⟩
  case claim =>
    obtain ⟨l, hstate, hcounts⟩ := exists_claim s.cfg.clkA s { s.fg with label := .l1 }
    exact ⟨l, by rw [exec_uartInit_l0 hl, ← hstate]; rfl, hcounts⟩
  case brDiv => rw [exec_uartInit_l2 hl, writeLegal_of_legal _ _ hdiv]; rfl
  case brRem => rw [exec_uartInit_l3 hl, writeLegal_of_legal _ _ (decide_eq_true hrem)]; rfl
  case brMod => rw [exec_uartInit_l4 hl, writeLegal_of_legal _ _ (decide_eq_true hmod)]; rfl
  case clkA => rw [exec_uartInit_l5 hl, writeLegal_of_legal _ _ hclkA]; rfl
  case uartRelease => rw [exec_uartInit_l6 hl, writeUartSwrst_false_of_held hheld]; rfl
  case uartFree => rw [exec_uartInit_l6 hl, writeUartSwrst_false_of_not_held (by simp [hfree]), ← hfree]; rfl
  case clkB => rw [exec_i2cInit_l2 hl, writeLegal_of_legal _ _ hclkB]; rfl
  case presc => rw [exec_i2cInit_l3 hl, writeLegal_of_legal _ _ hpresc]; rfl
  case i2cRelease => rw [exec_i2cInit_l4 hl, writeI2cSwrst_false_of_held hheld]; rfl
  case i2cFree => rw [exec_i2cInit_l4 hl, writeI2cSwrst_false_of_not_held (by simp [hfree]), ← hfree]; rfl

/-! ### UART_TRANSFER, UART_PUTC and UART_PUTS, one equation per line (R185 to R187) -/

theorem seedUart_of_empty (v : Byte) {s : State} (h : s.ueng.txregFull = .written false) :
    seedUart v s = (s.setUeng (uartFed v s.ueng)).goto .w0 := writeUartTxbuf_of_empty h

theorem seedUart_of_full (v : Byte) {s : State} (h : s.ueng.txregFull = .written true) :
    seedUart v s = s.raise .fg .txbufOverwrite := writeUartTxbuf_of_full h

theorem seedUart_of_unwritten (v : Byte) {s : State} (h : s.ueng.txregFull = .unwritten) :
    seedUart v s = s.raise .fg .unwrittenRead := writeUartTxbuf_of_unwritten h

section

variable {p : BitVec 32} {n : BitVec 16} {b : Byte} {tmo : Option (BitVec 16)} {s : State}

theorem exec_uartTransfer_l0 (hl : s.fg.label = .l0) (hlive : s.ueng.live = true) :
    exec (.uartTransfer p n tmo) s = .next (
      if 2 ^ s.cfg.addrW < p.toNat + n.toNat then s.refuse .bufferWraps
      else if n.toNat = 0 then s.refuse .emptyTransfer else s.goto .l1) := by
  have hn : n = 0#16 ↔ n.toNat = 0 := BitVec.toNat_inj.symm
  simp [exec, execUartTransfer, hl, requireLive_of_live _ _ hlive, bufferWraps, hn]

theorem exec_uartTransfer_l1 (hl : s.fg.label = .l1) :
    exec (.uartTransfer p n tmo) s = .next ((setTxCount n.toNat s).goto .l2) := by
  simp [exec, execUartTransfer, hl]

theorem exec_uartTransfer_l2 (hl : s.fg.label = .l2) :
    exec (.uartTransfer p n tmo) s = .next ((setTxCursorAfter p.toNat s).goto .l3) := by
  simp [exec, execUartTransfer, hl]

theorem exec_uartTransfer_l3 (hl : s.fg.label = .l3) :
    exec (.uartTransfer p n tmo) s = .next ((setTxDone false s).goto .l4) := by
  simp [exec, execUartTransfer, hl]

theorem exec_uartTransfer_l4 (hl : s.fg.label = .l4) :
    exec (.uartTransfer p n tmo) s = .next (memRead p.toNat s fun v => seedUart v s) := by
  simp [exec, execUartTransfer, hl]

theorem exec_uartTransfer_l6 (hl : s.fg.label = .l6) : exec (.uartTransfer p n tmo) s = .next s.done := by
  simp [exec, execUartTransfer, hl]

theorem exec_uartPutc_l0 (hl : s.fg.label = .l0) (hlive : s.ueng.live = true) :
    exec (.uartPutc b tmo) s = .next ((setTxCount 1 s).goto .l2) := by
  simp [exec, execUartPutc, hl, requireLive_of_live _ _ hlive]

theorem exec_uartPutc_l2 (hl : s.fg.label = .l2) :
    exec (.uartPutc b tmo) s = .next ((setTxDone false s).goto .l3) := by
  simp [exec, execUartPutc, hl]

theorem exec_uartPutc_l3 (hl : s.fg.label = .l3) : exec (.uartPutc b tmo) s = .next (seedUart b s) := by
  simp [exec, execUartPutc, hl]

theorem exec_uartPutc_l5 (hl : s.fg.label = .l5) : exec (.uartPutc b tmo) s = .next s.done := by
  simp [exec, execUartPutc, hl]

theorem exec_uartPuts_l0 (hl : s.fg.label = .l0) (hlive : s.ueng.live = true) :
    exec (.uartPuts p tmo) s = .next ((s.setFg { s.fg with len := 0 }).goto .l1) := by
  simp [exec, execUartPuts, hl, requireLive_of_live _ _ hlive]

theorem exec_uartPuts_l1 (hl : s.fg.label = .l1) : exec (.uartPuts p tmo) s = .next
    (memRead (p.toNat + s.fg.len) s fun v => (s.setFg { s.fg with b := v }).goto .l2) := by
  simp [exec, execUartPuts, hl]

theorem exec_uartPuts_l2_end (hl : s.fg.label = .l2) (hb : s.fg.b = 0) :
    exec (.uartPuts p tmo) s = .next (s.goto .l3) := by
  simp [exec, execUartPuts, hl, hb]

theorem exec_uartPuts_l2_wraps (hl : s.fg.label = .l2) (hb : s.fg.b ≠ 0)
    (hw : 2 ^ s.cfg.addrW ≤ p.toNat + s.fg.len + 1 ∨ 2 ^ s.cfg.countW ≤ s.fg.len + 1) :
    exec (.uartPuts p tmo) s = .next (s.refuse .bufferWraps) := by
  simp only [exec, execUartPuts, hl]
  rw [if_neg hb, if_pos hw]

theorem exec_uartPuts_l2_goes_on (hl : s.fg.label = .l2) (hb : s.fg.b ≠ 0)
    (haddr : p.toNat + s.fg.len + 1 < 2 ^ s.cfg.addrW) (hcount : s.fg.len + 1 < 2 ^ s.cfg.countW) :
    exec (.uartPuts p tmo) s = .next ((s.setFg { s.fg with len := s.fg.len + 1 }).goto .l1) := by
  simp only [exec, execUartPuts, hl]
  rw [if_neg hb, if_neg (by omega)]

theorem exec_uartPuts_l3 (hl : s.fg.label = .l3) :
    exec (.uartPuts p tmo) s = .next (if s.fg.len = 0 then s.refuse .emptyTransfer else s.goto .l4) := by
  simp [exec, execUartPuts, hl]

theorem exec_uartPuts_l4 (hl : s.fg.label = .l4) : exec (.uartPuts p tmo) s = .next (s.goto .x1) := by
  simp [exec, execUartPuts, hl]

theorem exec_uartPuts_x1 (hl : s.fg.label = .x1) :
    exec (.uartPuts p tmo) s = .next ((setTxCount s.fg.len s).goto .x2) := by
  simp [exec, execUartPuts, hl]

theorem exec_uartPuts_x2 (hl : s.fg.label = .x2) :
    exec (.uartPuts p tmo) s = .next ((setTxCursorAfter p.toNat s).goto .x3) := by
  simp [exec, execUartPuts, hl]

theorem exec_uartPuts_x3 (hl : s.fg.label = .x3) :
    exec (.uartPuts p tmo) s = .next ((setTxDone false s).goto .x4) := by
  simp [exec, execUartPuts, hl]

theorem exec_uartPuts_x4 (hl : s.fg.label = .x4) :
    exec (.uartPuts p tmo) s = .next (memRead p.toNat s fun v => seedUart v s) := by
  simp [exec, execUartPuts, hl]

theorem exec_uartPuts_x6 (hl : s.fg.label = .x6) : exec (.uartPuts p tmo) s = .next s.done := by
  simp [exec, execUartPuts, hl]

end

/-- Settles O30: each line's equation; at the seed the memory read and the holding register decide. -/
theorem uartTransmitLines : Obligations.UartTransmitLines := by
  intro p n b tmo s
  refine ⟨exec_uartTransfer_l0, exec_uartTransfer_l1, fun hl hfits => ?cursor, exec_uartTransfer_l3,
    fun hl hadm => ?held, fun hl hadm hempty => ?seed, fun hl hadm hfull => ?overwrite, exec_uartTransfer_l6,
    exec_uartPutc_l0, exec_uartPutc_l2, fun hl hempty => ?putcSeed, fun hl hfull => ?putcOverwrite, exec_uartPutc_l5,
    rfl, rfl⟩
  case cursor => rw [exec_uartTransfer_l2 hl, setTxCursorAfter_of_fits hfits]; rfl
  case held => rw [exec_uartTransfer_l4 hl, memRead_of_not_admitted _ hadm]
  case seed => rw [exec_uartTransfer_l4 hl, memRead_of_admitted _ hadm, seedUart_of_empty _ hempty]; rfl
  case overwrite =>
    rw [exec_uartTransfer_l4 hl, memRead_of_admitted _ hadm, seedUart_of_full _ hfull, raise_fg_of_label _ hl]
  case putcSeed => rw [exec_uartPutc_l3 hl, seedUart_of_empty _ hempty]; rfl
  case putcOverwrite => rw [exec_uartPutc_l3 hl, seedUart_of_full _ hfull, raise_fg_of_label _ hl]

/-- Settles O31: each line's equation; in the scan the byte read and the widths decide, at the seed the memory read and the
holding register. -/
theorem uartPutsLines : Obligations.UartPutsLines := by
  intro p tmo s
  refine ⟨exec_uartPuts_l0, fun hl hadm => ?read, fun hl hadm => ?heldRead, exec_uartPuts_l2_end,
    exec_uartPuts_l2_wraps, exec_uartPuts_l2_goes_on, fun hl hlen => ?empty, fun hl hlen => ?scanned, exec_uartPuts_l4,
    exec_uartPuts_x1, fun hl hfits => ?cursor, exec_uartPuts_x3, fun hl hadm => ?held, fun hl hadm hempty => ?seed,
    fun hl hadm hfull => ?overwrite, exec_uartPuts_x6, rfl⟩
  case read => rw [exec_uartPuts_l1 hl, memRead_of_admitted _ hadm]; rfl
  case heldRead => rw [exec_uartPuts_l1 hl, memRead_of_not_admitted _ hadm]
  case empty => rw [exec_uartPuts_l3 hl, if_pos hlen]; rfl
  case scanned => rw [exec_uartPuts_l3 hl, if_neg hlen]; rfl
  case cursor => rw [exec_uartPuts_x2 hl, setTxCursorAfter_of_fits hfits]; rfl
  case held => rw [exec_uartPuts_x4 hl, memRead_of_not_admitted _ hadm]
  case seed => rw [exec_uartPuts_x4 hl, memRead_of_admitted _ hadm, seedUart_of_empty _ hempty]; rfl
  case overwrite =>
    rw [exec_uartPuts_x4 hl, memRead_of_admitted _ hadm, seedUart_of_full _ hfull, raise_fg_of_label _ hl]

/-! ### The I2C transfers, one equation per line (R224, R227, R228) -/

/-- The three transfers are one body with a direction. -/
theorem exec_of_i2cOperands {i : Instr} {dir : Dir} {a : SlaveAddr} {p n : Nat} {tmo : Option Nat} (s : State)
    (h : i2cOperands i = some (dir, a, p, n, tmo)) : exec i s = .next (i2cTransferStep dir a p n tmo s) := by
  cases i <;> simp only [i2cOperands, reduceCtorEq, Option.some.injEq, Prod.mk.injEq] at h <;>
    obtain ⟨rfl, rfl, rfl, rfl, rfl⟩ := h <;> rfl

section

variable {dir : Dir} {a : SlaveAddr} {p n : Nat} {tmo : Option Nat} {s : State}

theorem i2cTransferStep_l0 (hl : s.fg.label = .l0) (hlive : s.ieng.live = true) :
    i2cTransferStep dir a p n tmo s =
      if 2 ^ s.cfg.addrW < p + n then s.refuse .bufferWraps
      else if dir = .recv ∧ n = 0 then s.refuse .emptyTransfer else s.goto .l1 := by
  simp [i2cTransferStep, hl, requireLive_of_live _ _ hlive, bufferWraps]

theorem i2cTransferStep_l1 (hl : s.fg.label = .l1) :
    i2cTransferStep dir a p n tmo s = (claim s.cfg.clkB s).goto .l2 := by
  simp [i2cTransferStep, hl]

theorem i2cTransferStep_l2 (hl : s.fg.label = .l2) :
    i2cTransferStep dir a p n tmo s =
      (s.setIeng { s.ieng with dirTx := .written (decide (dir = .send)) }).goto .l3 := by
  simp [i2cTransferStep, hl, beq_eq_decide]

theorem i2cTransferStep_l3 (hl : s.fg.label = .l3) :
    i2cTransferStep dir a p n tmo s = (s.setIeng { s.ieng with sa := .written a }).goto .l4 := by
  simp [i2cTransferStep, hl]

theorem i2cTransferStep_l4 (hl : s.fg.label = .l4) :
    i2cTransferStep dir a p n tmo s = (s.setI2c { s.i2c with count := n }).goto .l5 := by
  simp [i2cTransferStep, hl]

theorem i2cTransferStep_l5 (hl : s.fg.label = .l5) :
    i2cTransferStep dir a p n tmo s = (s.setI2c { s.i2c with cursor := p }).goto .l6 := by
  simp [i2cTransferStep, hl]

theorem i2cTransferStep_l6 (hl : s.fg.label = .l6) :
    i2cTransferStep dir a p n tmo s = (s.setI2c { s.i2c with done := false }).goto .l7 := by
  simp [i2cTransferStep, hl]

theorem i2cTransferStep_l7 (hl : s.fg.label = .l7) :
    i2cTransferStep dir a p n tmo s = (s.setI2c { s.i2c with dir := dir }).goto .l8 := by
  simp [i2cTransferStep, hl]

theorem i2cTransferStep_l8 (hl : s.fg.label = .l8) :
    i2cTransferStep dir a p n tmo s = (requestStart s).goto .l9 := by
  simp [i2cTransferStep, hl]

theorem i2cTransferStep_l9 (hl : s.fg.label = .l9) :
    i2cTransferStep dir a p n tmo s = s.goto (if dir = .recv ∧ n = 1 then .l10 else .w0) := by
  simp [i2cTransferStep, hl, apply_ite s.goto]

theorem i2cTransferStep_l10 {r : Bool} (hl : s.fg.label = .l10) (hr : s.ieng.startReq = .written r) :
    i2cTransferStep dir a p n tmo s = holdUntil (!r) s (s.goto .l11) := by
  simp [i2cTransferStep, hl, hr]

theorem i2cTransferStep_l11 (hl : s.fg.label = .l11) :
    i2cTransferStep dir a p n tmo s = (requestStop s).goto .w0 := by
  simp [i2cTransferStep, hl]

theorem i2cTransferStep_l13 {r : Bool} (hl : s.fg.label = .l13) (hr : s.ieng.busBusy = .written r) :
    i2cTransferStep dir a p n tmo s = holdUntil (!r) s (s.goto .l14) := by
  simp [i2cTransferStep, hl, hr]

theorem i2cTransferStep_l14 (hl : s.fg.label = .l14) :
    i2cTransferStep dir a p n tmo s = release .fg s.cfg.clkB s State.done := by
  simp [i2cTransferStep, hl]

end

theorem waitOf_of_i2cOperands {i : Instr} {dir : Dir} {a : SlaveAddr} {p n : Nat} {tmo : Option Nat} (s : State)
    (h : i2cOperands i = some (dir, a, p, n, tmo)) : waitOf s i = some (s.i2c.done, tmo, .l13) := by
  cases i <;> simp only [i2cOperands, reduceCtorEq, Option.some.injEq, Prod.mk.injEq] at h <;>
    obtain ⟨-, -, -, -, rfl⟩ := h <;> rfl

/-- Settles O35: each line's equation of the shared body; at the two holds the engine's flag decides. -/
theorem i2cTransferLines : Obligations.I2cTransferLines := by
  intro i dir a p n tmo s hop
  simp only [exec_of_i2cOperands s hop]
  refine ⟨fun hl hlive => ?_, fun hl => ?claim, fun hl => ?_, fun hl => ?_, fun hl => ?_, fun hl => ?_, fun hl => ?_,
    fun hl => ?_, fun hl => ?_, fun hl => ?_, fun hl hr => ?startHeld, fun hl hr => ?started, fun hl => ?_,
    fun hl hr => ?busHeld, fun hl hr => ?drained, fun hl hcount => ?release, fun hl hkind hcount => ?underflow,
    waitOf_of_i2cOperands s hop⟩
  case claim =>
    obtain ⟨l, hstate, hcounts⟩ := exists_claim s.cfg.clkB s { s.fg with label := .l2 }
    exact ⟨l, by rw [i2cTransferStep_l1 hl, ← hstate]; rfl, hcounts⟩
  case startHeld => rw [i2cTransferStep_l10 hl hr]; rfl
  case started => rw [i2cTransferStep_l10 hl hr]; rfl
  case busHeld => rw [i2cTransferStep_l13 hl hr]; rfl
  case drained => rw [i2cTransferStep_l13 hl hr]; rfl
  case release =>
    obtain ⟨l, hrelease, hcounts⟩ := exists_release .fg s.cfg.clkB s State.done hcount
    exact ⟨l, by rw [i2cTransferStep_l14 hl, hrelease]; rfl, hcounts⟩
  case underflow => rw [i2cTransferStep_l14 hl, release_of_none _ hkind hcount, raise_fg_of_label _ hl]
  · rw [i2cTransferStep_l0 hl hlive]; rfl
  · rw [i2cTransferStep_l2 hl]; rfl
  · rw [i2cTransferStep_l3 hl]; rfl
  · rw [i2cTransferStep_l4 hl]; rfl
  · rw [i2cTransferStep_l5 hl]; rfl
  · rw [i2cTransferStep_l6 hl]; rfl
  · rw [i2cTransferStep_l7 hl]; rfl
  · rw [i2cTransferStep_l8 hl]; rfl
  · rw [i2cTransferStep_l9 hl]; rfl
  · rw [i2cTransferStep_l11 hl]; rfl

end Sys2Proof.Machine
end

section
/-! PROOFS. The four handlers, one equation per line (42_uart.md, 43_i2c.md); the free cursor past the top of the address
space; and every place where a micro-step stops instead of having its effect. -/

namespace Sys2Proof.Machine

/-! ### The UART handlers, one equation per line (R192, R193) -/

theorem isOne_of_eq {r : Reg Bool} (h : r = .written true) : isOne r = true := (isOne_iff r).2 h

theorem isOne_of_ne {r : Reg Bool} (h : r ≠ .written true) : isOne r = false :=
  Bool.eq_false_iff.2 fun hone => h ((isOne_iff r).1 hone)

section

variable {s : State}

/-- T1's countdown, which stops at 0, is one write of the count. -/
theorem ite_setTxCount (s : State) : (if 0 < s.uart.txCount then setTxCount (s.uart.txCount - 1) s else s) =
    s.setUart { s.uart with txCount := if 0 < s.uart.txCount then s.uart.txCount - 1 else s.uart.txCount } := by
  by_cases hcount : 0 < s.uart.txCount
  · rw [if_pos hcount, if_pos hcount]; rfl
  · rw [if_neg hcount, if_neg hcount]; rfl

theorem exec_uartTx_t0 (hl : s.irq.label = .t0) :
    exec .uartHandleTxIrq s = .next (if isOne s.ueng.txReady then s.irqGoto .t1 else s.irqReturn false) := by
  simp [exec, execUartHandleTxIrq, hl]

theorem exec_uartTx_t1 (hl : s.irq.label = .t1) : exec .uartHandleTxIrq s = .next
    ((s.setUart { s.uart with
      txCount := if 0 < s.uart.txCount then s.uart.txCount - 1 else s.uart.txCount }).irqGoto .t2) := by
  simp only [exec, execUartHandleTxIrq, hl, ite_setTxCount]

theorem exec_uartTx_t2 (hl : s.irq.label = .t2) :
    exec .uartHandleTxIrq s = .next (s.irqGoto (if 0 < s.uart.txCount then .t3 else .t5)) := by
  simp [exec, execUartHandleTxIrq, hl, apply_ite s.irqGoto]

theorem exec_uartTx_t3 (hl : s.irq.label = .t3) : exec .uartHandleTxIrq s = .next
    (memRead s.uart.txCursor s fun v => writeUartTxbuf .irq v s fun s => s.irqGoto .t4) := by
  simp [exec, execUartHandleTxIrq, hl]

theorem exec_uartTx_t4 (hl : s.irq.label = .t4) :
    exec .uartHandleTxIrq s = .next ((setTxCursorAfter s.uart.txCursor s).irqReturn false) := by
  simp [exec, execUartHandleTxIrq, hl]

theorem exec_uartTx_t5 (hl : s.irq.label = .t5) :
    exec .uartHandleTxIrq s = .next ((setTxDone true s).irqGoto .t6) := by
  simp [exec, execUartHandleTxIrq, hl]

theorem exec_uartTx_t6 (hl : s.irq.label = .t6) : exec .uartHandleTxIrq s = .next ((s.setUeng
    (if s.cfg.uartTxExhaust = .clearFlag then { s.ueng with txReady := .written false } else s.ueng)).irqGoto .t7) := by
  cases hexhaust : s.cfg.uartTxExhaust with
  | none => simp [exec, execUartHandleTxIrq, hl, hexhaust]; rfl
  | clearFlag => simp [exec, execUartHandleTxIrq, hl, hexhaust]

theorem exec_uartTx_t7 (hl : s.irq.label = .t7) : exec .uartHandleTxIrq s = .next (s.irqReturn true) := by
  simp [exec, execUartHandleTxIrq, hl]

theorem exec_uartRx_q0 (hl : s.irq.label = .q0) :
    exec .uartHandleRxIrq s = .next (if isOne s.ueng.rxReady then s.irqGoto .q1 else s.irqReturn false) := by
  simp [exec, execUartHandleRxIrq, hl]

theorem exec_uartRx_q1 (hl : s.irq.label = .q1) : exec .uartHandleRxIrq s = .next
    (readUartRxbuf .irq s fun v t => (t.setUart { t.uart with rxByte := v }).irqGoto .q2) := by
  simp [exec, execUartHandleRxIrq, hl]

theorem exec_uartRx_q2 (hl : s.irq.label = .q2) :
    exec .uartHandleRxIrq s = .next ((s.setUart { s.uart with rxCount := 1 }).irqGoto .q3) := by
  simp [exec, execUartHandleRxIrq, hl]

theorem exec_uartRx_q3 (hl : s.irq.label = .q3) : exec .uartHandleRxIrq s = .next (s.irqReturn true) := by
  simp [exec, execUartHandleRxIrq, hl]

theorem readUartRxbuf_of_written {ag : Agent} {v : Byte} (k : Byte → State → State) (h : s.ueng.rxbuf = .written v) :
    readUartRxbuf ag s k = k v (s.setUeng { s.ueng with rxReady := .written false }) := by
  simp [readUartRxbuf, h]

theorem readUartRxbuf_of_unwritten {ag : Agent} (k : Byte → State → State) (h : s.ueng.rxbuf = .unwritten) :
    readUartRxbuf ag s k = s.raise ag .unwrittenRead := by
  simp [readUartRxbuf, h]

end

/-- Settles O34: each line's equation; the probes, the memory read and the holding register decide. -/
theorem uartHandlerLines : Obligations.UartHandlerLines := by
  intro s
  refine ⟨fun hl hr => ?txIdle, fun hl hr => ?txReady, exec_uartTx_t1, exec_uartTx_t2, fun hl hadm => ?held,
    fun hl hadm hempty => ?feed, fun hl hadm hfull => ?overwrite, fun hl hfits => ?cursor, exec_uartTx_t5,
    exec_uartTx_t6, exec_uartTx_t7, fun hl hr => ?rxIdle, fun hl hr => ?rxReady, fun v hl hv => ?byte, exec_uartRx_q2,
    exec_uartRx_q3⟩
  case txIdle => rw [exec_uartTx_t0 hl, isOne_of_ne hr]; rfl
  case txReady => rw [exec_uartTx_t0 hl, isOne_of_eq hr]; rfl
  case held => rw [exec_uartTx_t3 hl, memRead_of_not_admitted _ hadm]
  case feed => rw [exec_uartTx_t3 hl, memRead_of_admitted _ hadm, writeUartTxbuf_of_empty hempty]; rfl
  case overwrite =>
    rw [exec_uartTx_t3 hl, memRead_of_admitted _ hadm, writeUartTxbuf_of_full hfull, raise_irq_of_label _ hl]
  case cursor => rw [exec_uartTx_t4 hl, setTxCursorAfter_of_fits hfits]; rfl
  case rxIdle => rw [exec_uartRx_q0 hl, isOne_of_ne hr]; rfl
  case rxReady => rw [exec_uartRx_q0 hl, isOne_of_eq hr]; rfl
  case byte => rw [exec_uartRx_q1 hl, readUartRxbuf_of_written _ hv]; rfl

/-! ### The I2C transmit handler, one equation per line (R230) -/

section

variable {s : State}

theorem exec_i2cTx_t0 (hl : s.irq.label = .t0) :
    exec .i2cHandleTxIrq s = .next (if isOne s.ieng.txReady then s.irqGoto .t1 else s.irqReturn false) := by
  simp [exec, execI2cHandleTxIrq, hl]

theorem exec_i2cTx_t1 (hl : s.irq.label = .t1) :
    exec .i2cHandleTxIrq s = .next (s.irqGoto (if 0 < s.i2c.count then .t2 else .t5)) := by
  simp [exec, execI2cHandleTxIrq, hl, apply_ite s.irqGoto]

theorem exec_i2cTx_t2 (hl : s.irq.label = .t2) : exec .i2cHandleTxIrq s = .next
    (memRead s.i2c.cursor s fun v => writeI2cTxbuf .irq v s fun s => s.irqGoto .t3) := by
  simp [exec, execI2cHandleTxIrq, hl]

theorem exec_i2cTx_t3 (hl : s.irq.label = .t3) :
    exec .i2cHandleTxIrq s = .next ((bumpI2cCursor s).irqGoto .t4) := by
  simp [exec, execI2cHandleTxIrq, hl]

theorem exec_i2cTx_t4 (hl : s.irq.label = .t4) :
    exec .i2cHandleTxIrq s = .next ((decI2cCount s).irqReturn false) := by
  simp [exec, execI2cHandleTxIrq, hl]

theorem exec_i2cTx_t5 (hl : s.irq.label = .t5) :
    exec .i2cHandleTxIrq s = .next ((requestStop s).irqGoto .t6) := by
  simp [exec, execI2cHandleTxIrq, hl]

theorem exec_i2cTx_t6 (hl : s.irq.label = .t6) :
    exec .i2cHandleTxIrq s = .next ((setI2cDone s).irqGoto .t7) := by
  simp [exec, execI2cHandleTxIrq, hl]

theorem exec_i2cTx_t7 (hl : s.irq.label = .t7) : exec .i2cHandleTxIrq s = .next ((s.setIeng
    (if s.cfg.i2cTxExhaust = .clearFlag then { s.ieng with txReady := .written false } else s.ieng)).irqGoto .t8) := by
  cases hexhaust : s.cfg.i2cTxExhaust with
  | none => simp [exec, execI2cHandleTxIrq, hl, hexhaust]; rfl
  | clearFlag => simp [exec, execI2cHandleTxIrq, hl, hexhaust]

theorem exec_i2cTx_t8 (hl : s.irq.label = .t8) : exec .i2cHandleTxIrq s = .next (s.irqReturn true) := by
  simp [exec, execI2cHandleTxIrq, hl]

end

/-- Settles O36: each line's equation; the probe, the memory read and the holding register decide. -/
theorem i2cTransmitHandlerLines : Obligations.I2cTransmitHandlerLines := by
  intro s
  refine ⟨fun hl hr => ?idle, fun hl hr => ?ready, exec_i2cTx_t1, fun hl hadm => ?held, fun hl hadm hempty => ?feed,
    fun hl hadm hfull => ?overwrite, fun hl hfits => ?cursor, exec_i2cTx_t4, exec_i2cTx_t5, exec_i2cTx_t6,
    exec_i2cTx_t7, exec_i2cTx_t8⟩
  case idle => rw [exec_i2cTx_t0 hl, isOne_of_ne hr]; rfl
  case ready => rw [exec_i2cTx_t0 hl, isOne_of_eq hr]; rfl
  case held => rw [exec_i2cTx_t2 hl, memRead_of_not_admitted _ hadm]
  case feed => rw [exec_i2cTx_t2 hl, memRead_of_admitted _ hadm, writeI2cTxbuf_of_empty hempty]; rfl
  case overwrite =>
    rw [exec_i2cTx_t2 hl, memRead_of_admitted _ hadm, writeI2cTxbuf_of_full hfull, raise_irq_of_label _ hl]
  case cursor => rw [exec_i2cTx_t3 hl, bumpI2cCursor_of_fits hfits]; rfl

/-! ### The I2C receive handler, one equation per line (R232 to R235) -/

theorem preStop_iff (c : Params) (count : Nat) : preStop c count = true ↔
    (c.rxStopPolicy = .preLe2 ∧ count ≤ 2) ∨ (c.rxStopPolicy = .preEq2 ∧ count = 2) := by
  cases hpolicy : c.rxStopPolicy <;> simp [preStop, hpolicy]

theorem postStop_iff (c : Params) (count : Nat) :
    postStop c count = true ↔ c.rxStopPolicy = .postEq1 ∧ count = 1 := by
  cases hpolicy : c.rxStopPolicy <;> simp [postStop, hpolicy]

/-- A STOP requested or not is one write of the engine. -/
theorem ite_requestStop (p : Prop) [Decidable p] (s : State) :
    (if p then requestStop s else s) = s.setIeng (if p then { s.ieng with stopReq := .written true } else s.ieng) := by
  by_cases hp : p
  · rw [if_pos hp, if_pos hp]; rfl
  · rw [if_neg hp, if_neg hp]; rfl

theorem memWrite_of_admitted {a : Nat} {v : Byte} {s : State} (k : State → State) (h : s.admitted a = true) :
    memWrite a v s k = k (s.setMem (memSet s.mem a v)) := by
  simp [memWrite, h]

theorem memWrite_of_not_admitted {a : Nat} {v : Byte} {s : State} (k : State → State) (h : s.admitted a = false) :
    memWrite a v s k = s := by
  simp [memWrite, h]

section

variable {s : State}

theorem readI2cRxbuf_of_written {ag : Agent} {v : Byte} (k : Byte → State → State) (h : s.ieng.rxbuf = .written v) :
    readI2cRxbuf ag s k = k v (s.setIeng { s.ieng with rxReady := .written false }) := by
  simp [readI2cRxbuf, h]

theorem readI2cRxbuf_of_unwritten {ag : Agent} (k : Byte → State → State) (h : s.ieng.rxbuf = .unwritten) :
    readI2cRxbuf ag s k = s.raise ag .unwrittenRead := by
  simp [readI2cRxbuf, h]

theorem exec_i2cRx_n0 (hl : s.irq.label = .n0) :
    exec .i2cHandleRxIrq s = .next (s.irqGoto (if isOne s.ieng.nack then .n1 else .q0)) := by
  simp [exec, execI2cHandleRxIrq, hl, apply_ite s.irqGoto]

theorem exec_i2cRx_n1 (hl : s.irq.label = .n1) :
    exec .i2cHandleRxIrq s = .next ((s.setIeng { s.ieng with nack := .written false }).irqGoto .n2) := by
  simp [exec, execI2cHandleRxIrq, hl]

theorem exec_i2cRx_n2 (hl : s.irq.label = .n2) : exec .i2cHandleRxIrq s = .next
    (((requestStart s).setI2c { s.i2c with retries := s.i2c.retries + 1 }).irqGoto .n3) := by
  simp [exec, execI2cHandleRxIrq, hl]

theorem exec_i2cRx_n3 (hl : s.irq.label = .n3) : exec .i2cHandleRxIrq s = .next (s.irqReturn false) := by
  simp [exec, execI2cHandleRxIrq, hl]

theorem exec_i2cRx_q0 (hl : s.irq.label = .q0) :
    exec .i2cHandleRxIrq s = .next (if isOne s.ieng.rxReady then s.irqGoto .q1 else s.irqReturn false) := by
  simp [exec, execI2cHandleRxIrq, hl]

theorem exec_i2cRx_q1 (hl : s.irq.label = .q1) : exec .i2cHandleRxIrq s = .next ((s.setIeng
    (if preStop s.cfg s.i2c.count then { s.ieng with stopReq := .written true } else s.ieng)).irqGoto .q2) := by
  simp only [exec, execI2cHandleRxIrq, hl, ite_requestStop]

theorem exec_i2cRx_q2 (hl : s.irq.label = .q2) : exec .i2cHandleRxIrq s = .next
    (readI2cRxbuf .irq s fun v t => (t.setIrq { t.irq with r := v }).irqGoto .q3) := by
  simp [exec, execI2cHandleRxIrq, hl]

theorem exec_i2cRx_q3 (hl : s.irq.label = .q3) :
    exec .i2cHandleRxIrq s = .next (if s.i2c.count = 0 then s.irqReturn false else s.irqGoto .q4) := by
  simp [exec, execI2cHandleRxIrq, hl]

theorem exec_i2cRx_q4 (hl : s.irq.label = .q4) : exec .i2cHandleRxIrq s = .next
    (memWrite s.i2c.cursor s.irq.r s fun s => s.irqGoto .q5) := by
  simp [exec, execI2cHandleRxIrq, hl]

theorem exec_i2cRx_q5 (hl : s.irq.label = .q5) :
    exec .i2cHandleRxIrq s = .next ((bumpI2cCursor s).irqGoto .q6) := by
  simp [exec, execI2cHandleRxIrq, hl]

theorem exec_i2cRx_q6 (hl : s.irq.label = .q6) :
    exec .i2cHandleRxIrq s = .next ((decI2cCount s).irqGoto .q7) := by
  simp [exec, execI2cHandleRxIrq, hl]

theorem exec_i2cRx_q7 (hl : s.irq.label = .q7) : exec .i2cHandleRxIrq s = .next ((s.setIeng
    (if postStop s.cfg s.i2c.count then { s.ieng with stopReq := .written true } else s.ieng)).irqGoto .q8) := by
  simp only [exec, execI2cHandleRxIrq, hl, ite_requestStop]

theorem exec_i2cRx_q8 (hl : s.irq.label = .q8) : exec .i2cHandleRxIrq s = .next
    (if s.i2c.count = 0 then (setI2cDone s).irqReturn true else s.irqGoto .q9) := by
  simp [exec, execI2cHandleRxIrq, hl]

theorem exec_i2cRx_q9 (hl : s.irq.label = .q9) : exec .i2cHandleRxIrq s = .next (s.irqReturn false) := by
  simp [exec, execI2cHandleRxIrq, hl]

end

/-- Settles O37: each line's equation; the store is `memSet` at the cursor, whose reads and canonical form are known. -/
theorem i2cReceiveHandlerLines : Obligations.I2cReceiveHandlerLines := by
  intro s
  refine ⟨fun hl hr => ?noNack, fun hl hr => ?nack, exec_i2cRx_n1, exec_i2cRx_n2, exec_i2cRx_n3, fun hl hr => ?idle,
    fun hl hr => ?ready, fun hl => ?preStop, fun v hl hv => ?read, fun hl hcount => ?exhausted, fun hl hcount => ?store,
    fun hl hadm => ?held, fun hl hadm hwf => ?stored, fun hl hfits => ?cursor, exec_i2cRx_q6, fun hl => ?postStop,
    fun hl hcount => ?last, fun hl hcount => ?more, exec_i2cRx_q9⟩
  case noNack => rw [exec_i2cRx_n0 hl, isOne_of_ne hr]; rfl
  case nack => rw [exec_i2cRx_n0 hl, isOne_of_eq hr]; rfl
  case idle => rw [exec_i2cRx_q0 hl, isOne_of_ne hr]; rfl
  case ready => rw [exec_i2cRx_q0 hl, isOne_of_eq hr]; rfl
  case preStop => simp only [exec_i2cRx_q1 hl, preStop_iff]; rfl
  case read => rw [exec_i2cRx_q2 hl, readI2cRxbuf_of_written _ hv]; rfl
  case exhausted => rw [exec_i2cRx_q3 hl, if_pos hcount]; rfl
  case store => rw [exec_i2cRx_q3 hl, if_neg hcount]; rfl
  case held => rw [exec_i2cRx_q4 hl, memWrite_of_not_admitted _ hadm]
  case stored =>
    refine ⟨memSet s.mem s.i2c.cursor s.irq.r, ?_, memSet_wf _ _ _ hwf, fun a => ?_⟩
    · rw [exec_i2cRx_q4 hl, memWrite_of_admitted _ hadm]; rfl
    · exact (memGet_memSet _ _ _ _ hwf).trans (if_congr eq_comm rfl rfl)
  case cursor => rw [exec_i2cRx_q5 hl, bumpI2cCursor_of_fits hfits]; rfl
  case postStop => simp only [exec_i2cRx_q7 hl, postStop_iff]; rfl
  case last => rw [exec_i2cRx_q8 hl, if_pos hcount]; rfl
  case more => rw [exec_i2cRx_q8 hl, if_neg hcount]; rfl

/-! ### The cursor past the top (R13, R81; log 11) -/

/-- Settles O40: the free value is an address, and the cursor's line differs in nothing else. -/
theorem cursorPastTheTop : Obligations.CursorPastTheTop := by
  intro s
  refine ⟨fun p n tmo hl htop => ?_, fun p tmo hl htop => ?_, fun hl htop => ?_, fun hl htop => ?_, fun hl htop => ?_⟩
  · exact ⟨cursorAfter s p.toNat, cursorAfter_lt .., by rw [exec_uartTransfer_l2 hl, setTxCursorAfter_of_top htop]; rfl⟩
  · exact ⟨cursorAfter s p.toNat, cursorAfter_lt .., by rw [exec_uartPuts_x2 hl, setTxCursorAfter_of_top htop]; rfl⟩
  · exact ⟨cursorAfter s s.uart.txCursor, cursorAfter_lt .., by rw [exec_uartTx_t4 hl, setTxCursorAfter_of_top htop]; rfl⟩
  · exact ⟨cursorAfter s s.i2c.cursor, cursorAfter_lt .., by rw [exec_i2cTx_t3 hl, bumpI2cCursor_of_top htop]; rfl⟩
  · exact ⟨cursorAfter s s.i2c.cursor, cursorAfter_lt .., by rw [exec_i2cRx_q5 hl, bumpI2cCursor_of_top htop]; rfl⟩

/-! ### Where a micro-step stops (R58, R61, R65, R364) -/

section

variable {s : State}

/-- The lines of SWU_PUTC that read an element which is unwritten. -/
theorem exec_swuPutc_of_unwritten (b : Byte)
    (h : (s.swu.dl = .unwritten ∧ s.fg.label ∈ [Label.l2, .l3, .l5, .l6, .l9, .l10])
      ∨ (s.swu.sh = .unwritten ∧ s.fg.label = .l4) ∨ (s.swu.i = .unwritten ∧ s.fg.label ∈ [Label.l5, .l7])) :
    exec (.swuPutc b) s = .next (s.raise .fg .unwrittenRead) := by
  simp only [List.mem_cons, List.not_mem_nil, or_false] at h
  obtain ⟨hr, hl | hl | hl | hl | hl | hl⟩ | ⟨hr, hl⟩ | ⟨hr, hl | hl⟩ := h
  case inr.inr.inl =>
    cases hdl : s.swu.dl <;> simp [exec, execSwuPutc, hl, hr, hdl]
  all_goals simp [exec, execSwuPutc, hl, hr, holdDeadline]

/-- The lines of SWU_GETC that read an element which is unwritten. -/
theorem exec_swuGetc_of_unwritten
    (h : (s.swu.dl = .unwritten ∧ s.fg.label ∈ [Label.l2, .l3, .l4, .l7, .l8])
      ∨ (s.swu.acc = .unwritten ∧ s.fg.label ∈ [Label.l5, .l10]) ∨ (s.swu.i = .unwritten ∧ s.fg.label ∈ [Label.l5, .l6])) :
    exec .swuGetc s = .next (s.raise .fg .unwrittenRead) := by
  simp only [List.mem_cons, List.not_mem_nil, or_false] at h
  obtain ⟨hr, hl | hl | hl | hl | hl⟩ | ⟨hr, hl | hl⟩ | ⟨hr, hl | hl⟩ := h
  case inr.inr.inl =>
    cases hacc : s.swu.acc <;> simp [exec, execSwuGetc, hl, hr, hacc]
  all_goals simp [exec, execSwuGetc, hl, hr, holdDeadline]

theorem i2cTransferStep_of_unwritten {dir : Dir} {a : SlaveAddr} {p n : Nat} {tmo : Option Nat}
    (h : (s.ieng.startReq = .unwritten ∧ s.fg.label = .l10) ∨ (s.ieng.busBusy = .unwritten ∧ s.fg.label = .l13)) :
    i2cTransferStep dir a p n tmo s = s.raise .fg .unwrittenRead := by
  obtain ⟨hr, hl⟩ | ⟨hr, hl⟩ := h <;> simp [i2cTransferStep, hl, hr]

theorem irqExit_of_unwritten (w : Bool) (h : s.cpu.saved = .unwritten) :
    irqExit w s = s.raise .irq .unwrittenRead := by
  simp [irqExit, h]

theorem requireLive_of_not_live {live : Bool} (k : State) (h : live = false) :
    requireLive live s k = s.refuse .notInitialised := by
  simp [requireLive, h]

/-- An operation of the UART driver whose engine was never released stops at its first line (R364). -/
theorem exec_of_uart_not_live {i : Instr} (hi : needsUart i = true) (hlive : s.ueng.live = false)
    (hl : s.fg.label = .l0) : exec i s = .next (s.refuse .notInitialised) := by
  cases i <;> simp only [needsUart, reduceCtorEq] at hi <;>
    simp only [exec, execUartTransfer, execUartPutc, execUartPuts, execUartGetc, hl,
      requireLive_of_not_live _ hlive]

/-- A transfer of the I2C driver whose engine was never released stops at its first line (R364). -/
theorem exec_of_i2c_not_live {i : Instr} (hi : (i2cOperands i).isSome = true) (hlive : s.ieng.live = false)
    (hl : s.fg.label = .l0) : exec i s = .next (s.refuse .notInitialised) := by
  obtain ⟨⟨dir, a, p, n, tmo⟩, hop⟩ := Option.isSome_iff_exists.1 hi
  rw [exec_of_i2cOperands s hop]
  simp only [i2cTransferStep, hl, requireLive_of_not_live _ hlive]

theorem exec_i2c_of_unwritten {i : Instr} (hi : (i2cOperands i).isSome = true)
    (h : (s.ieng.startReq = .unwritten ∧ s.fg.label = .l10) ∨ (s.ieng.busBusy = .unwritten ∧ s.fg.label = .l13)) :
    exec i s = .next (s.raise .fg .unwrittenRead) := by
  obtain ⟨⟨dir, a, p, n, tmo⟩, hop⟩ := Option.isSome_iff_exists.1 hi
  rw [exec_of_i2cOperands s hop, i2cTransferStep_of_unwritten h]

end

theorem isClock_eq_false {c : Params} {k : ClockId} (h : c.clockFreq.length ≤ k) : c.isClock k = false :=
  decide_eq_false (Nat.not_lt.2 h)

theorem positive_and_below_eq_false {v w : Nat} (h : v = 0 ∨ 2 ^ w ≤ v) : (1 ≤ v && v < 2 ^ w) = false := by
  simp only [Bool.and_eq_false_iff, decide_eq_false_iff_not]
  omega

/-- Settles O41: every clause is the line's equation with the read, the write or the check that fails in it. -/
theorem microStepsThatStop : Obligations.MicroStepsThatStop := by
  intro s
  refine ⟨fun b hr hl => exec_swuPutc_of_unwritten b (.inl ⟨hr, hl⟩),
    fun b hr hl => exec_swuPutc_of_unwritten b (.inr (.inl ⟨hr, hl⟩)),
    fun b hr hl => exec_swuPutc_of_unwritten b (.inr (.inr ⟨hr, hl⟩)),
    fun hr hl => exec_swuGetc_of_unwritten (.inl ⟨hr, hl⟩),
    fun hr hl => exec_swuGetc_of_unwritten (.inr (.inl ⟨hr, hl⟩)),
    fun hr hl => exec_swuGetc_of_unwritten (.inr (.inr ⟨hr, hl⟩)),
    fun p n tmo hr hl hadm => ?transfer, fun p tmo hr hl hadm => ?puts, fun b tmo hr hl => ?putc,
    fun i hi hr hl => exec_i2c_of_unwritten hi (.inl ⟨hr, hl⟩),
    fun i hi hr hl => exec_i2c_of_unwritten hi (.inr ⟨hr, hl⟩),
    fun hr hl hadm => ?uartTx, fun hr hl hadm => ?i2cTx, fun hr hl => ?uartRx, fun hr hl => ?i2cRx,
    fun hr hl => ?tick, fun num v j w hr hl hctx hnum => ?dispatch,
    fun hl h => ?brDiv, fun hl h => ?brRem, fun hl h => ?brMod, fun hl h => ?clkA, fun hl h => ?clkB,
    fun hl h => ?presc, fun i hi hlive hl => exec_of_uart_not_live hi hlive hl,
    fun i hi hlive hl => exec_of_i2c_not_live hi hlive hl⟩
  case transfer => rw [exec_uartTransfer_l4 hl, memRead_of_admitted _ hadm, seedUart_of_unwritten _ hr]; rfl
  case puts => rw [exec_uartPuts_x4 hl, memRead_of_admitted _ hadm, seedUart_of_unwritten _ hr]; rfl
  case putc => rw [exec_uartPutc_l3 hl, seedUart_of_unwritten _ hr]; rfl
  case uartTx => rw [exec_uartTx_t3 hl, memRead_of_admitted _ hadm, writeUartTxbuf_of_unwritten hr]; rfl
  case i2cTx => rw [exec_i2cTx_t2 hl, memRead_of_admitted _ hadm, writeI2cTxbuf_of_unwritten hr]; rfl
  case uartRx => rw [exec_uartRx_q1 hl, readUartRxbuf_of_unwritten _ hr]; rfl
  case i2cRx => rw [exec_i2cRx_q2 hl, readI2cRxbuf_of_unwritten _ hr]; rfl
  case tick => rw [exec_tickIsr_k2 hl, irqExit_of_unwritten _ hr]; rfl
  case dispatch => rw [exec_dispatch_d3 hctx hnum hl, irqExit_of_unwritten _ hr]; rfl
  case brDiv => rw [exec_uartInit_l2 hl, writeLegal_of_illegal _ _ (positive_and_below_eq_false h)]; rfl
  case brRem => rw [exec_uartInit_l3 hl, writeLegal_of_illegal _ _ (decide_eq_false (Nat.not_lt.2 h))]; rfl
  case brMod => rw [exec_uartInit_l4 hl, writeLegal_of_illegal _ _ (decide_eq_false (Nat.not_lt.2 h))]; rfl
  case clkA => rw [exec_uartInit_l5 hl, writeLegal_of_illegal _ _ (isClock_eq_false h)]; rfl
  case clkB => rw [exec_i2cInit_l2 hl, writeLegal_of_illegal _ _ (isClock_eq_false h)]; rfl
  case presc => rw [exec_i2cInit_l3 hl, writeLegal_of_illegal _ _ (positive_and_below_eq_false h)]; rfl

end Sys2Proof.Machine
end

section
/-! PROOFS. Steps of the block: which operation a step of either context runs, which agent has no step, what a refused
descriptor does, and the steps of the environment agents (44_engines.md, 60_exceptions.md). -/

namespace Sys2Proof.Machine

/-! ### Steps of the two contexts -/

theorem exec_next (i : Instr) (s : State) : ∃ t, exec i s = .next t := by
  cases i <;> exact ⟨_, rfl⟩

theorem stopped_eq_false_iff (s : State) (a : Agent) : stopped s a = false ↔ ¬ Faulted a s := by
  rw [← stopped_iff, Bool.not_eq_true]

theorem anyAcceptable_iff (s : State) : anyAcceptable s = true ↔ ∃ v, acceptable s v = true := by
  simp only [anyAcceptable, Bool.or_eq_true]
  constructor
  · rintro (((h | h) | h) | h) <;> exact ⟨_, h⟩
  · rintro ⟨v, h⟩
    cases v <;> simp [h]

theorem fgReady_iff (s : State) : fgReady s = true ↔ s.cpu.ctx = .fg ∧ s.cpu.asleep = false
    ∧ ¬ (∃ v, acceptable s v = true) ∧ ¬ Faulted .fg s ∧ s.fg.k < s.fg.prog.length := by
  simp only [fgReady, Bool.and_eq_true, Bool.not_eq_true', beq_iff_eq, decide_eq_true_iff, and_assoc,
    stopped_eq_false_iff, ← anyAcceptable_iff, Bool.not_eq_true]

theorem fgStep_of_not_ready {s : State} (h : ¬ fgReady s = true) : fgStep s = .next s := by
  simp [fgStep, h]

theorem fgStep_of_ok {s : State} {i : Instr} (h : fgReady s = true) (hi : fgInstr s = .ok i) : fgStep s = exec i s := by
  simp [fgStep, h, hi]

theorem fgStep_of_error {s : State} {r : Refusal} (h : fgReady s = true) (hr : fgInstr s = .error r) :
    fgStep s = .next (s.refuse r) := by
  simp [fgStep, h, hr]

theorem irqStep_of_faulted {s : State} (h : Faulted .irq s) : irqStep s = .next s := by
  simp [irqStep, (stopped_iff s .irq).2 h]

theorem irqStep_of_none {s : State} (h : irqInstr s = none) : irqStep s = .next s := by
  simp [irqStep, h]

theorem irqStep_of_some {s : State} {i : Instr} (h : ¬ Faulted .irq s) (hi : irqInstr s = some i) :
    irqStep s = exec i s := by
  simp [irqStep, (stopped_eq_false_iff s .irq).2 h, hi]

/-! ### The operation the interrupt context stands at (R330, R340) -/

section

variable {s : State} {v : Vec} {j : Nat} {w : Bool}

theorem irqInstr_of_fg (hctx : s.cpu.ctx = .fg) : irqInstr s = none := by simp [irqInstr, hctx]

theorem irqInstr_of_vt (hctx : s.cpu.ctx = .irq .vt j w) : irqInstr s = some .tickIsr := by simp [irqInstr, hctx]

theorem irqInstr_of_dispatch (hctx : s.cpu.ctx = .irq v j w) (hv : v ≠ .vt)
    (hl : s.irq.label ∈ [IrqLabel.d0, .d2, .d3]) : irqInstr s = some (.dispatch (vecNum v)) := by
  simp only [List.mem_cons, List.not_mem_nil, or_false] at hl
  cases v
  case vt => exact absurd rfl hv
  all_goals obtain hl | hl | hl := hl <;> simp [irqInstr, hctx, hl]

/-- The lines of a handler are none of DISPATCH's and none of TICK_ISR's. -/
theorem not_mem_of_handlerLines {h : Handler} {l : IrqLabel} (hl : l ∈ handlerLines h) :
    l ∉ [IrqLabel.d0, .d2, .d3, .k0, .k1, .k2] := by
  cases h <;> revert l <;> decide

theorem irqInstr_of_handler {h : Handler} (hctx : s.cpu.ctx = .irq v j w) (hv : v ≠ .vt)
    (hj : (s.cfg.dispatchOrder v)[j]? = some h) (hl : s.irq.label ∈ handlerLines h) :
    irqInstr s = some (handlerInstr h) := by
  have hnot := not_mem_of_handlerLines hl
  simp only [List.mem_cons, List.not_mem_nil, or_false, not_or] at hnot
  cases v
  case vt => exact absurd rfl hv
  all_goals simp only [irqInstr, hctx, hj, Option.map_some]; split <;> simp_all

end

/-! ### Obligations on the steps of the two contexts -/

/-- Settles O6: the foreground is ready, and the descriptor at its position is the operation's. -/
theorem stepRunsTheForegroundOperation : Obligations.StepRunsTheForegroundOperation := by
  intro s t d i hmoves hctx hawake hacc hrun hd hdec hwf hissuer
  have hlt : t.fg.k < t.fg.prog.length := (List.getElem?_eq_some_iff.1 hd).1
  have hready : fgReady t = true := (fgReady_iff t).2 ⟨hctx, hawake, by simp [hacc], hrun, hlt⟩
  rw [step_of_moves hmoves]
  exact fgStep_of_ok hready ((fgInstr_ok_iff t i).2 ⟨by rw [currentDesc_of_getElem? hd, hdec], hwf, hissuer⟩)

/-- Settles O7: the operation is TICK_ISR's, DISPATCH's or the handler's as the vector and the label say. -/
theorem stepRunsTheInterruptOperation : Obligations.StepRunsTheInterruptOperation := by
  intro s t v j w hmoves hrun hctx
  have hstep {i : Instr} (hi : irqInstr t = some i) : step s = exec i t := by
    rw [step_of_moves hmoves]
    exact irqStep_of_some hrun hi
  refine ⟨?tick, fun hv hl => hstep (irqInstr_of_dispatch hctx hv hl),
    fun h hv hj hl => hstep (irqInstr_of_handler hctx hv hj hl)⟩
  rintro rfl
  exact hstep (irqInstr_of_vt hctx)

/-- Settles O8: a ready foreground takes the refusal that its descriptor gives. -/
theorem illFormedDescriptorsAreRefused : Obligations.IllFormedDescriptorsAreRefused := by
  intro s t d hmoves hctx hawake hacc hrun hd
  have hlt : t.fg.k < t.fg.prog.length := (List.getElem?_eq_some_iff.1 hd).1
  have hready : fgReady t = true := (fgReady_iff t).2 ⟨hctx, hawake, by simp [hacc], hrun, hlt⟩
  have hdesc := currentDesc_of_getElem? hd
  have hstep {r : Refusal} (hr : fgInstr t = .error r) : step s = .next { t with refused := some r } := by
    rw [step_of_moves hmoves]
    exact fgStep_of_error hready hr
  refine ⟨fun hop => ?_, fun hop hrow => ?_, fun i hdec hwf => ?_, fun i hdec hwf hissuer => ?_⟩
  · exact hstep (fgInstr_of_decode_error (e := .unassignedOpcode) (by rw [hdesc]; exact decode_of_not_opcode hop))
  · exact hstep (fgInstr_of_decode_error (e := .reservedField) (by rw [hdesc]; exact decode_of_not_selects hop hrow))
  · exact hstep (fgInstr_of_not_rangeOk (by rw [hdesc]; exact hdec) hwf)
  · exact hstep (fgInstr_of_handler (by rw [hdesc]; exact hdec) hwf hissuer)

/-! ### The environment's steps: everything that one can be (44_engines.md) -/

/-- The step of an environment choice, with the condition it is enabled under: one constructor per rule of R273 to R302,
and one per outcome where a rule has several. -/
inductive EnvStep (s : State) : Choice → State → Prop
  | uLoad {v : Byte} (hm : uartMoves s = true) (hreg : s.ueng.txregFull = .written true)
      (hshift : s.ueng.shifterFull = .written false) (hv : s.ueng.txreg = .written v) :
      EnvStep s .uLoad (s.setUeng { s.ueng with
        shifter := .written v, shifterFull := .written true, txregFull := .written false, txReady := .written true })
  | uShiftOut {v : Byte} (hm : uartMoves s = true) (hshift : s.ueng.shifterFull = .written true)
      (hv : s.ueng.shifter = .written v) :
      EnvStep s .uShiftOut ((s.emit (.uOut v)).setUeng { s.ueng with shifterFull := .written false })
  | uReceive {v : Byte} (hm : uartMoves s = true) :
      EnvStep s (.uReceive v) ((s.emit (.uIn v)).setUeng { s.ueng with rxbuf := .written v, rxReady := .written true })
  | iStart {a : SlaveAddr} {d : Bool} (hm : i2cMoves s = true) (hreq : s.ieng.startReq = .written true)
      (he : s.ieng.estate = .written .idle ∨ s.ieng.estate = .written .hold) (ha : s.ieng.sa = .written a)
      (hd : s.ieng.dirTx = .written d) :
      EnvStep s .iStart (setPhase .startSent ((s.emit (.i2cStart a (!d))).setIeng { s.ieng with
        busBusy := .written true, estate := .written .addr }))
  | iAddressTx (hm : i2cMoves s = true) (he : s.ieng.estate = .written .addr) (hd : s.ieng.dirTx = .written true) :
      EnvStep s (.iAddress true) (setPhase .txByte ((s.emit .i2cAddrAck).setIeng { s.ieng with
        startReq := .written false, estate := .written .tx, txReady := .written true }))
  | iAddressRx (hm : i2cMoves s = true) (he : s.ieng.estate = .written .addr) (hd : s.ieng.dirTx = .written false) :
      EnvStep s (.iAddress true) (setPhase .rxByte ((s.emit .i2cAddrAck).setIeng { s.ieng with
        startReq := .written false, estate := .written .rx }))
  | iAddressNack {d : Bool} (hm : i2cMoves s = true) (he : s.ieng.estate = .written .addr)
      (hd : s.ieng.dirTx = .written d) :
      EnvStep s (.iAddress false) ((s.emit .i2cAddrNack).setIeng { s.ieng with
        startReq := .written false, nack := .written true, estate := .written .hold })
  | iLoad {v : Byte} (hm : i2cMoves s = true) (he : s.ieng.estate = .written .tx)
      (hreg : s.ieng.txregFull = .written true) (hshift : s.ieng.shifterFull = .written false)
      (hv : s.ieng.txreg = .written v) :
      EnvStep s .iLoad (s.setIeng { s.ieng with
        shifter := .written v, shifterFull := .written true, txregFull := .written false, txReady := .written true })
  | iByteOutAck {v : Byte} (hm : i2cMoves s = true) (he : s.ieng.estate = .written .tx)
      (hshift : s.ieng.shifterFull = .written true) (hv : s.ieng.shifter = .written v) :
      EnvStep s (.iByteOut true)
        ((s.emit (.i2cByteOut v true)).setIeng { s.ieng with shifterFull := .written false })
  | iByteOutNack {v : Byte} (hm : i2cMoves s = true) (he : s.ieng.estate = .written .tx)
      (hshift : s.ieng.shifterFull = .written true) (hv : s.ieng.shifter = .written v) :
      EnvStep s (.iByteOut false)
        (((s.emit (.i2cByteOut v false)).setIeng { s.ieng with shifterFull := .written false }).raise .envI .i2cDataNack)
  | iStopBegin (hm : i2cMoves s = true) (hreq : s.ieng.stopReq = .written true) (he : stopBeginState s.ieng = true) :
      EnvStep s .iStopBegin (setPhase .stopSent ((s.emit .i2cStop).setIeng { s.ieng with
        stopReq := .written false, estate := .written .stopping }))
  | iStopEnd (hm : i2cMoves s = true) (he : s.ieng.estate = .written .stopping) :
      EnvStep s .iStopEnd (setPhase .idle (s.setIeng { s.ieng with
        busBusy := .written false, estate := .written .idle }))
  | iByteIn {v : Byte} {stop : Bool} (hm : i2cMoves s = true) (he : s.ieng.estate = .written .rx)
      (hready : s.ieng.rxReady = .written false) (hreq : s.ieng.stopReq = .written stop) :
      EnvStep s (.iByteIn v) ((s.emit (.i2cByteIn v (!stop))).setIeng { s.ieng with
        rxbuf := .written v, rxReady := .written true, estate := .written (if stop then .rxlast else .rx) })
  | iStopIdleFault (hm : i2cMoves s = true) (he : s.ieng.estate = .written .idle)
      (hstop : s.ieng.stopReq = .written true) (hstart : s.ieng.startReq = .written false)
      (hc : s.cfg.stopInIdle = .fault) : EnvStep s .iStopIdle (s.raise .envI .i2cStopInIdle)
  | iStopIdleIgnore (hm : i2cMoves s = true) (he : s.ieng.estate = .written .idle)
      (hstop : s.ieng.stopReq = .written true) (hstart : s.ieng.startReq = .written false)
      (hc : s.cfg.stopInIdle = .ignore) :
      EnvStep s .iStopIdle (s.setIeng { s.ieng with stopReq := .written false })
  | iStartBusy (hm : i2cMoves s = true) (hreq : s.ieng.startReq = .written true)
      (he : s.ieng.estate = .written .tx ∨ s.ieng.estate = .written .rx ∨ s.ieng.estate = .written .rxlast) :
      EnvStep s .iStartBusy (s.raise .envI .i2cStartWhileBusy)
  | ctr : EnvStep s .ctr (s.setCtr ((s.ctr + 1) % 2 ^ s.cfg.ctrW))
  | tick : EnvStep s .tick (s.setTickPending true)
  | line {b : Bool} : EnvStep s (.line b) (s.setLine { s.line with rx := b })

/-- `EnvStep` is what the model's environment agents do. -/
theorem envStep_iff (s t : State) (c : Choice) : envStep c s = some t ↔ EnvStep s c t := by
  constructor
  · intro h
    cases c <;> simp only [envStep, reduceCtorEq, Option.some.injEq] at h
    case uLoad =>
      unfold uartLoad at h
      split at h <;> try simp only [reduceCtorEq] at h
      next v hreg hshift hv =>
        split at h <;> simp only [reduceCtorEq, Option.some.injEq] at h
        next hm => exact h ▸ .uLoad hm hreg hshift hv
    case uShiftOut =>
      unfold uartShiftOut at h
      split at h <;> try simp only [reduceCtorEq] at h
      next v hshift hv =>
        split at h <;> simp only [reduceCtorEq, Option.some.injEq] at h
        next hm => exact h ▸ .uShiftOut hm hshift hv
    case uReceive v =>
      unfold uartReceive at h
      split at h <;> simp only [reduceCtorEq, Option.some.injEq] at h
      next hm => exact h ▸ .uReceive hm
    case iStart =>
      unfold i2cStart at h
      split at h <;> try simp only [reduceCtorEq] at h
      next e a d hreq he ha hd =>
        split at h <;> simp only [reduceCtorEq, Option.some.injEq] at h
        next hm =>
          simp only [Bool.and_eq_true, Bool.or_eq_true, beq_iff_eq] at hm
          obtain ⟨hm, rfl | rfl⟩ := hm
          · exact h ▸ .iStart hm hreq (.inl he) ha hd
          · exact h ▸ .iStart hm hreq (.inr he) ha hd
    case iAddress ack =>
      unfold i2cAddress at h
      split at h <;> try simp only [reduceCtorEq] at h
      next d he hd =>
        split at h
        next hm =>
          cases ack
          · exact Option.some.inj h ▸ .iAddressNack hm he hd
          · cases d
            · exact Option.some.inj h ▸ .iAddressRx hm he hd
            · exact Option.some.inj h ▸ .iAddressTx hm he hd
        next => cases h
    case iLoad =>
      unfold i2cLoad at h
      split at h <;> try simp only [reduceCtorEq] at h
      next v he hreg hshift hv =>
        split at h <;> simp only [reduceCtorEq, Option.some.injEq] at h
        next hm => exact h ▸ .iLoad hm he hreg hshift hv
    case iByteOut ack =>
      unfold i2cByteOut at h
      split at h <;> try simp only [reduceCtorEq] at h
      next v he hshift hv =>
        split at h <;> simp only [reduceCtorEq, Option.some.injEq] at h
        next hm =>
          cases ack
          · exact h ▸ .iByteOutNack hm he hshift hv
          · exact h ▸ .iByteOutAck hm he hshift hv
    case iStopBegin =>
      unfold i2cStopBegin at h
      split at h <;> simp only [reduceCtorEq, Option.some.injEq] at h
      next hm =>
        simp only [Bool.and_eq_true, isOne_iff] at hm
        exact h ▸ .iStopBegin hm.1.1 hm.1.2 hm.2
    case iStopEnd =>
      unfold i2cStopEnd at h
      split at h <;> simp only [reduceCtorEq, Option.some.injEq] at h
      next hm =>
        simp only [Bool.and_eq_true, beq_iff_eq] at hm
        exact h ▸ .iStopEnd hm.1 hm.2
    case iByteIn v =>
      unfold i2cByteIn at h
      split at h <;> try simp only [reduceCtorEq] at h
      next stop he hready hreq =>
        split at h <;> simp only [reduceCtorEq, Option.some.injEq] at h
        next hm => exact h ▸ .iByteIn hm he hready hreq
    case iStopIdle =>
      unfold i2cStopIdle at h
      split at h <;> simp only [reduceCtorEq, Option.some.injEq] at h
      next hm =>
        simp only [Bool.and_eq_true, beq_iff_eq, isOne_iff] at hm
        obtain ⟨⟨⟨hm, he⟩, hstop⟩, hstart⟩ := hm
        cases hc : s.cfg.stopInIdle <;> simp only [hc] at h
        · exact h ▸ .iStopIdleFault hm he hstop hstart hc
        · exact h ▸ .iStopIdleIgnore hm he hstop hstart hc
    case iStartBusy =>
      unfold i2cStartBusy at h
      split at h <;> simp only [reduceCtorEq, Option.some.injEq] at h
      next hm =>
        simp only [Bool.and_eq_true, Bool.or_eq_true, beq_iff_eq, isOne_iff, or_assoc] at hm
        exact h ▸ .iStartBusy hm.1.1 hm.1.2 hm.2
    case ctr => exact h ▸ .ctr
    case tick => exact h ▸ .tick
    case line => exact h ▸ .line
  · intro h
    cases h with
    | uLoad hm hreg hshift hv => simp [envStep, uartLoad, hm, hreg, hshift, hv]
    | uShiftOut hm hshift hv => simp [envStep, uartShiftOut, hm, hshift, hv]
    | uReceive hm => simp [envStep, uartReceive, hm]
    | iStart hm hreq he ha hd => obtain he | he := he <;> simp [envStep, i2cStart, hm, hreq, he, ha, hd]
    | iAddressTx hm he hd => simp [envStep, i2cAddress, hm, he, hd]
    | iAddressRx hm he hd => simp [envStep, i2cAddress, hm, he, hd]
    | iAddressNack hm he hd => simp [envStep, i2cAddress, hm, he, hd]
    | iLoad hm he hreg hshift hv => simp [envStep, i2cLoad, hm, he, hreg, hshift, hv]
    | iByteOutAck hm he hshift hv => simp [envStep, i2cByteOut, hm, he, hshift, hv]
    | iByteOutNack hm he hshift hv => simp [envStep, i2cByteOut, hm, he, hshift, hv]
    | iStopBegin hm hreq he => simp [envStep, i2cStopBegin, hm, isOne_of_eq hreq, he]
    | iStopEnd hm he => simp [envStep, i2cStopEnd, hm, he]
    | iByteIn hm he hready hreq => simp [envStep, i2cByteIn, hm, he, hready, hreq]
    | iStopIdleFault hm he hstop hstart hc => simp [envStep, i2cStopIdle, hm, he, isOne_of_eq hstop, hstart, hc]
    | iStopIdleIgnore hm he hstop hstart hc => simp [envStep, i2cStopIdle, hm, he, isOne_of_eq hstop, hstart, hc]
    | iStartBusy hm hreq he => obtain he | he | he := he <;> simp [envStep, i2cStartBusy, hm, isOne_of_eq hreq, he]
    | ctr => rfl
    | tick => rfl
    | line => rfl

/-! ### Which agents may step (R277, R279, R280, R331, R345) -/

theorem enginesFree_iff (s : State) : enginesFree s = true ↔ EnginesFree s := by
  simp [enginesFree, EnginesFree]

theorem uartMoves_iff (s : State) :
    uartMoves s = true ↔ uartRunning s = true ∧ EnginesFree s ∧ ¬ Faulted .envU s := by
  simp [uartMoves, and_assoc, enginesFree_iff, stopped_eq_false_iff]

theorem i2cMoves_iff (s : State) :
    i2cMoves s = true ↔ i2cRunning s = true ∧ EnginesFree s ∧ ¬ Faulted .envI s := by
  simp [i2cMoves, and_assoc, enginesFree_iff, stopped_eq_false_iff]

theorem clockRuns_iff (s : State) (sel : Reg ClockId) : clockRuns s sel = true ↔
    s.cfg.sleepGates = false ∨ (∃ c, sel = .written c ∧ 0 < claimCount s.claims c) ∨ s.cpu.asleep = false := by
  cases sel <;> simp [clockRuns, claimed, or_assoc]

theorem uartRunning_iff (s : State) : uartRunning s = true ↔ s.ueng.live = true ∧ s.ueng.swrst = .written false
    ∧ clockRuns s s.ueng.clksel = true := by
  simp [uartRunning, and_assoc]

theorem i2cRunning_iff (s : State) : i2cRunning s = true ↔ s.ieng.live = true ∧ s.ieng.swrst = .written false
    ∧ clockRuns s s.ieng.clksel = true := by
  simp [i2cRunning, and_assoc]

/-- A step of the UART engine is one of its three choices, and needs the engine to move. -/
theorem uartMoves_of_envStep {s t : State} {c : Choice} (h : EnvStep s c t)
    (hc : c = .uLoad ∨ c = .uShiftOut ∨ ∃ v, c = .uReceive v) : uartMoves s = true := by
  obtain rfl | rfl | ⟨v, rfl⟩ := hc <;> cases h <;> assumption

/-- A step of the I2C engine needs the engine to move. -/
theorem i2cMoves_of_envStep {s t : State} {c : Choice} (h : EnvStep s c t)
    (hc : c ∈ [Choice.iStart, .iLoad, .iStopBegin, .iStopEnd, .iStopIdle, .iStartBusy]
      ∨ (∃ b, c = .iAddress b ∨ c = .iByteOut b) ∨ ∃ v, c = .iByteIn v) : i2cMoves s = true := by
  cases h <;> first | assumption | simp at hc

/-! ### The block's step of an environment choice -/

/-- A choice of the environment: not a micro-step, and not an entry. -/
def EnvChoice (c : Choice) : Prop := c ≠ .fg ∧ c ≠ .irq ∧ ∀ v, c ≠ .enter v

section

variable {s t u : State} {c : Choice}

theorem step_of_envStep (hmoves : Moves c s t) (h : EnvStep t c u) : step s = .next u := by
  have henv := (envStep_iff t u c).2 h
  rw [step_of_moves hmoves]
  cases c <;> simp only [takeChoice, henv, Option.getD_some] <;> simp [envStep] at henv

/-- Where an environment choice has no enabled step it uses itself up (log 2). -/
theorem step_of_no_envStep (hmoves : Moves c s t) (hc : EnvChoice c) (h : ∀ u, ¬ EnvStep t c u) : step s = .next t := by
  have henv : envStep c t = none := by
    rw [Option.eq_none_iff_forall_ne_some]
    exact fun u hu => h u ((envStep_iff t u c).1 hu)
  obtain ⟨hfg, hirq, henter⟩ := hc
  rw [step_of_moves hmoves]
  cases c <;> simp only [takeChoice, henv, Option.getD_none]
  case fg => exact absurd rfl hfg
  case irq => exact absurd rfl hirq
  case enter v => exact absurd rfl (henter v)

theorem envChoice_of_uart (hc : c = .uLoad ∨ c = .uShiftOut ∨ ∃ v, c = .uReceive v) : EnvChoice c := by
  obtain rfl | rfl | ⟨v, rfl⟩ := hc <;> simp [EnvChoice]

theorem envChoice_of_i2c (hc : c ∈ [Choice.iStart, .iLoad, .iStopBegin, .iStopEnd, .iStopIdle, .iStartBusy]
    ∨ (∃ b, c = .iAddress b ∨ c = .iByteOut b) ∨ ∃ v, c = .iByteIn v) : EnvChoice c := by
  cases c <;> simp [EnvChoice] at hc ⊢

theorem step_of_not_uartMoves (hmoves : Moves c s t) (hc : c = .uLoad ∨ c = .uShiftOut ∨ ∃ v, c = .uReceive v)
    (h : ¬ uartMoves t = true) : step s = .next t :=
  step_of_no_envStep hmoves (envChoice_of_uart hc) fun _ hu => h (uartMoves_of_envStep hu hc)

theorem step_of_not_i2cMoves (hmoves : Moves c s t)
    (hc : c ∈ [Choice.iStart, .iLoad, .iStopBegin, .iStopEnd, .iStopIdle, .iStartBusy]
      ∨ (∃ b, c = .iAddress b ∨ c = .iByteOut b) ∨ ∃ v, c = .iByteIn v)
    (h : ¬ i2cMoves t = true) : step s = .next t :=
  step_of_no_envStep hmoves (envChoice_of_i2c hc) fun _ hu => h (i2cMoves_of_envStep hu hc)

end

theorem takeChoice_next (c : Choice) (s : State) : ∃ t, takeChoice c s = .next t := by
  cases c <;> simp only [takeChoice, Host.Outcome.next.injEq, exists_eq']
  case fg =>
    by_cases hready : fgReady s = true
    · cases hi : fgInstr s with
      | error r => exact ⟨_, fgStep_of_error hready hi⟩
      | ok i => rw [fgStep_of_ok hready hi]; exact exec_next i s
    · exact ⟨_, fgStep_of_not_ready hready⟩
  case irq =>
    by_cases hrun : Faulted .irq s
    · exact ⟨_, irqStep_of_faulted hrun⟩
    · cases hi : irqInstr s with
      | none => exact ⟨_, irqStep_of_none hi⟩
      | some i => rw [irqStep_of_some hrun hi]; exact exec_next i s

theorem step_of_refused {s : State} {r : Refusal} (h : s.refused = some r) : step s = .refused r := by
  simp [step, blockStep, h]

theorem step_of_not_refused {s : State} (h : s.refused = none) : ∃ t, step s = .next t := by
  simp only [step, blockStep, h]
  exact takeChoice_next _ _

/-- Settles O9: only a refused state answers a refusal; and an agent that is not ready, not in the interrupt context, or
stopped leaves the state. -/
theorem whoHasNoStep : Obligations.WhoHasNoStep := by
  refine ⟨fun s => ?outcomes, fun s t c hmoves => ⟨?fg, ?irq, ?enter, ?engine⟩⟩
  case outcomes =>
    cases hr : s.refused with
    | some r => simp [step_of_refused hr]
    | none =>
      obtain ⟨t, ht⟩ := step_of_not_refused hr
      simp [ht]
  case fg =>
    rintro rfl h
    rw [step_of_moves hmoves]
    refine fgStep_of_not_ready fun hready => ?_
    obtain ⟨hctx, hawake, hacc, hrun, hlt⟩ := (fgReady_iff t).1 hready
    obtain h | h | h | h | h := h
    · exact h hctx
    · simp [hawake] at h
    · exact hacc h
    · exact absurd hlt (Nat.not_lt.2 h)
    · exact hrun h
  case irq =>
    rintro rfl h
    rw [step_of_moves hmoves]
    exact h.elim (fun hctx => irqStep_of_none (irqInstr_of_fg hctx)) irqStep_of_faulted
  case enter =>
    rintro v rfl h
    rw [step_of_moves hmoves]
    have hstays : enterStep v t = t := by
      obtain hacc | hstop := h
      · simp [enterStep, hacc]
      · simp [enterStep, (stopped_iff t .irq).2 hstop]
    simp [takeChoice, hstays]
  case engine =>
    intro hc hfault
    exact step_of_not_i2cMoves hmoves hc fun hm => ((i2cMoves_iff t).1 hm).2.2 hfault

/-! ### Obligations on the engines' steps -/

/-- Settles O43: an engine's three conditions; where one fails, or a handler freezes the engines, its choices do nothing. -/
theorem enginesHeld : Obligations.EnginesHeld := by
  intro s
  refine ⟨by rw [uartRunning_iff, clockRuns_iff], by rw [i2cRunning_iff, clockRuns_iff], fun t c hmoves => ⟨?_, ?_⟩⟩
  · intro h hc
    refine step_of_not_uartMoves hmoves hc fun hm => ?_
    obtain ⟨hrun, hfree, -⟩ := (uartMoves_iff t).1 hm
    simp [hrun, hfree] at h
  · intro h hc
    refine step_of_not_i2cMoves hmoves hc fun hm => ?_
    obtain ⟨hrun, hfree, -⟩ := (i2cMoves_iff t).1 hm
    simp [hrun, hfree] at h

/-- Settles O42: each enabled step is its constructor of `EnvStep`, and where the condition fails there is none. -/
theorem uartEngineAndClockSteps : Obligations.UartEngineAndClockSteps := by
  intro s t c hmoves
  refine ⟨fun hrun hfree hok => ?uart, ?ctr, ?tick, ?line⟩
  case ctr => rintro rfl; exact step_of_envStep hmoves .ctr
  case tick => rintro rfl; exact step_of_envStep hmoves .tick
  case line => rintro b rfl; exact step_of_envStep hmoves .line
  case uart =>
    have hm : uartMoves t = true := (uartMoves_iff t).2 ⟨hrun, hfree, hok⟩
    refine ⟨?load, ?noLoad, ?shiftOut, ?noShiftOut, ?receive⟩
    case load => rintro v rfl hreg hshift hv; exact step_of_envStep hmoves (.uLoad hm hreg hshift hv)
    case noLoad =>
      rintro rfl h
      refine step_of_no_envStep hmoves (envChoice_of_uart (by simp)) fun u hu => ?_
      cases hu with | uLoad _ hreg hshift _ => simp [hreg, hshift] at h
    case shiftOut => rintro v rfl hshift hv; exact step_of_envStep hmoves (.uShiftOut hm hshift hv)
    case noShiftOut =>
      rintro rfl h
      refine step_of_no_envStep hmoves (envChoice_of_uart (by simp)) fun u hu => ?_
      cases hu with | uShiftOut _ hshift _ => exact h hshift
    case receive => rintro v rfl; exact step_of_envStep hmoves (.uReceive hm)

theorem stopBeginState_iff (e : I2cEngine) : stopBeginState e = true ↔
    (e.estate = .written .tx ∧ e.txregFull = .written false ∧ e.shifterFull = .written false)
      ∨ e.estate = .written .hold ∨ (e.estate = .written .rxlast ∧ e.rxReady = .written false) := by
  simp [stopBeginState, and_assoc, or_assoc]

/-- Settles O44: each enabled step is its constructor of `EnvStep`, and where the condition fails there is none. -/
theorem i2cBusConditions : Obligations.I2cBusConditions := by
  intro s t c hmoves hrun hfree hok
  have hm : i2cMoves t = true := (i2cMoves_iff t).2 ⟨hrun, hfree, hok⟩
  refine ⟨?start, ?noStart, ?addressTx, ?addressRx, ?addressNack, ?noAddress, ?stopBegin, ?stopEnd, ?stopIdle,
    ?noStopIdle, ?startBusy, ?noStartBusy⟩
  case start => rintro a d rfl hreq he ha hd; exact step_of_envStep hmoves (.iStart hm hreq he ha hd)
  case noStart =>
    rintro rfl h
    refine step_of_no_envStep hmoves (envChoice_of_i2c (by simp)) fun u hu => ?_
    cases hu with | iStart _ hreq he _ _ => exact h.elim (· hreq) fun hne => he.elim hne.1 hne.2
  case addressTx => rintro rfl he hd; exact step_of_envStep hmoves (.iAddressTx hm he hd)
  case addressRx => rintro rfl he hd; exact step_of_envStep hmoves (.iAddressRx hm he hd)
  case addressNack => rintro d rfl he hd; exact step_of_envStep hmoves (.iAddressNack hm he hd)
  case noAddress =>
    rintro b rfl h
    refine step_of_no_envStep hmoves (envChoice_of_i2c (by simp)) fun u hu => ?_
    cases hu <;> contradiction
  case stopBegin =>
    rintro rfl
    split_ifs with h
    · exact step_of_envStep hmoves (.iStopBegin hm h.1 ((stopBeginState_iff _).2 h.2))
    · refine step_of_no_envStep hmoves (envChoice_of_i2c (by simp)) fun u hu => ?_
      cases hu with | iStopBegin _ hreq he => exact h ⟨hreq, (stopBeginState_iff _).1 he⟩
  case stopEnd =>
    rintro rfl
    split_ifs with h
    · exact step_of_envStep hmoves (.iStopEnd hm h)
    · refine step_of_no_envStep hmoves (envChoice_of_i2c (by simp)) fun u hu => ?_
      cases hu with | iStopEnd _ he => exact h he
  case stopIdle =>
    rintro rfl he hstop hstart
    exact ⟨fun hc => step_of_envStep hmoves (.iStopIdleFault hm he hstop hstart hc),
      fun hc => step_of_envStep hmoves (.iStopIdleIgnore hm he hstop hstart hc)⟩
  case noStopIdle =>
    rintro rfl h
    refine step_of_no_envStep hmoves (envChoice_of_i2c (by simp)) fun u hu => ?_
    cases hu <;> simp_all
  case startBusy => rintro rfl hreq he; exact step_of_envStep hmoves (.iStartBusy hm hreq he)
  case noStartBusy =>
    rintro rfl h
    refine step_of_no_envStep hmoves (envChoice_of_i2c (by simp)) fun u hu => ?_
    cases hu with
    | iStartBusy _ hreq he =>
      obtain h | ⟨htx, hrx, hlast⟩ := h
      · exact h hreq
      · exact he.elim htx fun he => he.elim hrx hlast

/-- Settles O45: each enabled step is its constructor of `EnvStep`, and where the condition fails there is none. -/
theorem i2cBusData : Obligations.I2cBusData := by
  intro s t c hmoves hrun hfree hok
  have hm : i2cMoves t = true := (i2cMoves_iff t).2 ⟨hrun, hfree, hok⟩
  refine ⟨?load, ?noLoad, ?ack, ?nack, ?noByteOut, ?byteIn, ?noByteIn⟩
  case load => rintro v rfl he hreg hshift hv; exact step_of_envStep hmoves (.iLoad hm he hreg hshift hv)
  case noLoad =>
    rintro rfl h
    refine step_of_no_envStep hmoves (envChoice_of_i2c (by simp)) fun u hu => ?_
    cases hu with | iLoad _ he hreg hshift _ => exact h.elim (· he) fun h => h.elim (· hreg) (· hshift)
  case ack => rintro v rfl he hshift hv; exact step_of_envStep hmoves (.iByteOutAck hm he hshift hv)
  case nack => rintro v rfl he hshift hv; exact step_of_envStep hmoves (.iByteOutNack hm he hshift hv)
  case noByteOut =>
    rintro b rfl h
    refine step_of_no_envStep hmoves (envChoice_of_i2c (by simp)) fun u hu => ?_
    cases hu <;> exact h.elim (absurd ‹_›) (absurd ‹_›)
  case byteIn => rintro v stop rfl he hready hreq; exact step_of_envStep hmoves (.iByteIn hm he hready hreq)
  case noByteIn =>
    rintro v rfl h
    refine step_of_no_envStep hmoves (envChoice_of_i2c (by simp)) fun u hu => ?_
    cases hu with | iByteIn _ he hready _ => exact h.elim (· he) (· hready)

end Sys2Proof.Machine
end

section
/-! PROOFS. What a micro-step of either context can do, said once: `FgStep` and `IrqStep` list, line by line, the condition a
line is taken under and the state it leaves, and every micro-step of `exec` is one of them. -/

namespace Sys2Proof.Machine

/-- RELEASE of a clock that has a count to give back (R121). -/
def releaseOne (c : ClockId) (s : State) : State :=
  s.setClaims (setClaim s.claims c (if s.cfg.claimKind = .counter then claimCount s.claims c - 1 else 0))

theorem release_cases_one (ag : Agent) (c : ClockId) (s : State) (k : State → State) :
    (s.cfg.claimKind = .counter ∧ claimCount s.claims c = 0 ∧ release ag c s k = s.raise ag .releaseUnderflow)
      ∨ ((s.cfg.claimKind = .counter → 0 < claimCount s.claims c) ∧ release ag c s k = k (releaseOne c s)) := by
  obtain ⟨hkind, hcount, h⟩ | ⟨hkind, hcount, h⟩ | ⟨hkind, h⟩ := release_cases ag c s k
  · exact .inl ⟨hkind, hcount, h⟩
  · exact .inr ⟨fun _ => hcount, by rw [h, releaseOne, if_pos hkind]⟩
  · exact .inr ⟨fun hc => by simp [hkind] at hc, by rw [h, releaseOne, if_neg (by simp [hkind])]⟩

/-- The line at which a UART operation seeds its transfer (R185 X4, R186 C3, R187). -/
def seedLine : Instr → Option Label
  | .uartTransfer _ _ _ => some .l4
  | .uartPutc _ _ => some .l3
  | .uartPuts _ _ => some .x4
  | _ => none

/-- The operations that a refusal can stop at one of their own lines (R61, R81, R185, R187, R224, R364). -/
def CanRefuse (i : Instr) : Prop :=
  i = .uartInit ∨ i = .i2cInit ∨ needsUart i = true ∨ (i2cOperands i).isSome = true

/-- A line of SWU_PUTC reads an element that is unwritten. -/
def SwuPutcUnwritten (s : State) : Prop :=
  (s.swu.dl = .unwritten ∧ s.fg.label ∈ [Label.l2, .l3, .l5, .l6, .l9, .l10])
    ∨ (s.swu.sh = .unwritten ∧ s.fg.label = .l4) ∨ (s.swu.i = .unwritten ∧ s.fg.label ∈ [Label.l5, .l7])

/-- A line of SWU_GETC reads an element that is unwritten. -/
def SwuGetcUnwritten (s : State) : Prop :=
  (s.swu.dl = .unwritten ∧ s.fg.label ∈ [Label.l2, .l3, .l4, .l7, .l8])
    ∨ (s.swu.acc = .unwritten ∧ s.fg.label ∈ [Label.l5, .l10]) ∨ (s.swu.i = .unwritten ∧ s.fg.label ∈ [Label.l5, .l6])

/-! ### The foreground -/

/-- The micro-step of a foreground operation at the label the state holds: one constructor per line, and per outcome where a
line has several. The lines of WAIT and of the I2C transfers stand once, for every operation that has them. -/
inductive FgStep (s : State) : Instr → State → Prop
  | stays {i : Instr} : FgStep s i s
  | refuses {i : Instr} {r : Refusal} (hi : CanRefuse i) : FgStep s i (s.refuse r)
  | swuStatusRead (hl : s.fg.label = .l0) :
      FgStep s .swuStatusRead (setRet (statusByte s.swu.framingError s.swu.rxAvailable) s).done
  | swuStatusClear (hl : s.fg.label = .l0) :
      FgStep s .swuStatusClear (s.setSwu { s.swu with framingError := false, rxAvailable := false }).done
  | uartStatusRead (hl : s.fg.label = .l0) :
      FgStep s .uartStatusRead (setRet (statusByte s.uart.framingError s.uart.rxAvailable) s).done
  | uartStatusClear (hl : s.fg.label = .l0) :
      FgStep s .uartStatusClear (s.setUart { s.uart with framingError := false, rxAvailable := false }).done
  | swuPutcStart {b : Byte} (hl : s.fg.label = .l0) :
      FgStep s (.swuPutc b) ((s.setSwu { s.swu with dl := .written s.ctr, sh := .written b }).goto .l1)
  | swuPutcStartBit {b : Byte} (hl : s.fg.label = .l1) : FgStep s (.swuPutc b) ((driveTx false s).goto .l2)
  | swuPutcFirstDeadline {b : Byte} {dl : Nat} (hl : s.fg.label = .l2) (hdl : s.swu.dl = .written dl) :
      FgStep s (.swuPutc b) ((s.setSwu { s.swu with
        dl := .written ((dl + s.cfg.bitTime) % 2 ^ s.cfg.ctrW), i := .written 0 }).goto .l3)
  | swuPutcFirstHeld {b : Byte} (hl : s.fg.label = .l3) : FgStep s (.swuPutc b) (s.goto .l4)
  | swuPutcBit {b sh : Byte} (hl : s.fg.label = .l4) (hsh : s.swu.sh = .written sh) :
      FgStep s (.swuPutc b) (((driveTx (sh.getLsbD 0) s).setSwu { s.swu with sh := .written (sh >>> 1) }).goto .l5)
  | swuPutcDeadline {b : Byte} {dl i : Nat} (hl : s.fg.label = .l5) (hdl : s.swu.dl = .written dl)
      (hi : s.swu.i = .written i) :
      FgStep s (.swuPutc b) ((s.setSwu { s.swu with
        dl := .written ((dl + s.cfg.bitTime) % 2 ^ s.cfg.ctrW), i := .written (i + 1) }).goto .l6)
  | swuPutcHeld {b : Byte} (hl : s.fg.label = .l6) : FgStep s (.swuPutc b) (s.goto .l7)
  | swuPutcMore {b : Byte} {i : Nat} (hl : s.fg.label = .l7) (hi : s.swu.i = .written i) (hlt : i < 8) :
      FgStep s (.swuPutc b) (s.goto .l4)
  | swuPutcSent {b : Byte} {i : Nat} (hl : s.fg.label = .l7) (hi : s.swu.i = .written i) (hge : ¬ i < 8) :
      FgStep s (.swuPutc b) (s.goto .l8)
  | swuPutcStopBit {b : Byte} (hl : s.fg.label = .l8) : FgStep s (.swuPutc b) ((driveTx true s).goto .l9)
  | swuPutcLastDeadline {b : Byte} {dl : Nat} (hl : s.fg.label = .l9) (hdl : s.swu.dl = .written dl) :
      FgStep s (.swuPutc b) ((addDeadline dl s.cfg.bitTime s).goto .l10)
  | swuPutcEnds {b : Byte} (hl : s.fg.label = .l10) : FgStep s (.swuPutc b) s.done
  | swuPutcUnwritten {b : Byte} (h : SwuPutcUnwritten s) : FgStep s (.swuPutc b) (s.raise .fg .unwrittenRead)
  | swuGetcEdge (hl : s.fg.label = .l0) : FgStep s .swuGetc (s.goto .l1)
  | swuGetcDelay (hl : s.fg.label = .l1) :
      FgStep s .swuGetc ((s.setSwu { s.swu with
        dl := .written ((s.ctr + s.cfg.rxStartDelay) % 2 ^ s.cfg.ctrW), acc := .written 0, i := .written 0 }).goto .l2)
  | swuGetcDelayed (hl : s.fg.label = .l2) : FgStep s .swuGetc (s.goto .l3)
  | swuGetcDeadline {dl : Nat} (hl : s.fg.label = .l3) (hdl : s.swu.dl = .written dl) :
      FgStep s .swuGetc ((addDeadline dl s.cfg.bitTime s).goto .l4)
  | swuGetcHeld (hl : s.fg.label = .l4) : FgStep s .swuGetc (s.goto .l5)
  | swuGetcBit {acc : Byte} {i : Nat} (hl : s.fg.label = .l5) (hacc : s.swu.acc = .written acc)
      (hi : s.swu.i = .written i) :
      FgStep s .swuGetc (((sampleRx s).setSwu
        { s.swu with acc := .written (orBit acc s.line.rx i), i := .written (i + 1) }).goto .l6)
  | swuGetcMore {i : Nat} (hl : s.fg.label = .l6) (hi : s.swu.i = .written i) (hlt : i < 8) :
      FgStep s .swuGetc (s.goto .l3)
  | swuGetcReceived {i : Nat} (hl : s.fg.label = .l6) (hi : s.swu.i = .written i) (hge : ¬ i < 8) :
      FgStep s .swuGetc (s.goto .l7)
  | swuGetcLastDeadline {dl : Nat} (hl : s.fg.label = .l7) (hdl : s.swu.dl = .written dl) :
      FgStep s .swuGetc ((addDeadline dl s.cfg.bitTime s).goto .l8)
  | swuGetcLastHeld (hl : s.fg.label = .l8) : FgStep s .swuGetc (s.goto .l9)
  | swuGetcStopBit (hl : s.fg.label = .l9) :
      FgStep s .swuGetc (((sampleRx s).setSwu
        { s.swu with framingError := s.swu.framingError || !s.line.rx }).goto .l10)
  | swuGetcEnds {acc : Byte} (hl : s.fg.label = .l10) (hacc : s.swu.acc = .written acc) :
      FgStep s .swuGetc ((setRet acc s).setSwu { s.swu with rxAvailable := true }).done
  | swuGetcUnwritten (h : SwuGetcUnwritten s) : FgStep s .swuGetc (s.raise .fg .unwrittenRead)
  | uartInitClaim (hl : s.fg.label = .l0) : FgStep s .uartInit ((claim s.cfg.clkA s).goto .l1)
  | uartInitHold (hl : s.fg.label = .l1) :
      FgStep s .uartInit ((s.setUeng { s.ueng with swrst := .written true }).goto .l2)
  | uartInitDiv (hl : s.fg.label = .l2) (hv : 1 ≤ s.cfg.baudDiv ∧ s.cfg.baudDiv < 2 ^ s.cfg.brW) :
      FgStep s .uartInit ((s.setUeng { s.ueng with brDiv := .written s.cfg.baudDiv }).goto .l3)
  | uartInitRem (hl : s.fg.label = .l3) (hv : s.cfg.baudRem < 2 ^ s.cfg.brW) :
      FgStep s .uartInit ((s.setUeng { s.ueng with brRem := .written s.cfg.baudRem }).goto .l4)
  | uartInitMod (hl : s.fg.label = .l4) (hv : s.cfg.baudMod < 2 ^ s.cfg.modW) :
      FgStep s .uartInit ((s.setUeng { s.ueng with brMod := .written s.cfg.baudMod }).goto .l5)
  | uartInitClock (hl : s.fg.label = .l5) (hv : s.cfg.clkA < s.cfg.clockFreq.length) :
      FgStep s .uartInit ((s.setUeng { s.ueng with clksel := .written s.cfg.clkA }).goto .l6)
  | uartInitRelease (hl : s.fg.label = .l6) (hheld : s.ueng.swrst = .written true) :
      FgStep s .uartInit ((s.setUeng (uartRelease { s.ueng with swrst := .written false })).goto .l7)
  | uartInitFree (hl : s.fg.label = .l6) (hfree : s.ueng.swrst ≠ .written true) :
      FgStep s .uartInit ((s.setUeng { s.ueng with swrst := .written false }).goto .l7)
  | uartInitTxIe (hl : s.fg.label = .l7) :
      FgStep s .uartInit ((s.setUeng { s.ueng with txIe := .written true }).goto .l8)
  | uartInitRxIe (hl : s.fg.label = .l8) :
      FgStep s .uartInit (s.setUeng { s.ueng with rxIe := .written true }).done
  | uartEnables (hl : s.fg.label = .l0) : FgStep s .uartEnable (claim s.cfg.clkA s).done
  | i2cEnables (hl : s.fg.label = .l0) : FgStep s .i2cEnable (claim s.cfg.clkB s).done
  | uartDisables (hl : s.fg.label = .l0) : FgStep s .uartDisable (releaseOne s.cfg.clkA s).done
  | i2cDisables (hl : s.fg.label = .l0) : FgStep s .i2cDisable (releaseOne s.cfg.clkB s).done
  | uartUnderflows (hl : s.fg.label = .l0) : FgStep s .uartDisable (s.raise .fg .releaseUnderflow)
  | i2cUnderflows (hl : s.fg.label = .l0) : FgStep s .i2cDisable (s.raise .fg .releaseUnderflow)
  | transferChecked {p : BitVec 32} {n : BitVec 16} {tmo : Option (BitVec 16)} (hl : s.fg.label = .l0)
      (hlive : s.ueng.live = true) : FgStep s (.uartTransfer p n tmo) (s.goto .l1)
  | transferCount {p : BitVec 32} {n : BitVec 16} {tmo : Option (BitVec 16)} (hl : s.fg.label = .l1) :
      FgStep s (.uartTransfer p n tmo) ((setTxCount n.toNat s).goto .l2)
  | transferCursor {p : BitVec 32} {n : BitVec 16} {tmo : Option (BitVec 16)} {x : Sched} (hl : s.fg.label = .l2) :
      FgStep s (.uartTransfer p n tmo)
        (((s.setSched x).setUart { s.uart with txCursor := cursorAfter s p.toNat }).goto .l3)
  | transferBegins {p : BitVec 32} {n : BitVec 16} {tmo : Option (BitVec 16)} (hl : s.fg.label = .l3) :
      FgStep s (.uartTransfer p n tmo) ((setTxDone false s).goto .l4)
  | transferEnds {p : BitVec 32} {n : BitVec 16} {tmo : Option (BitVec 16)} (hl : s.fg.label = .l6) :
      FgStep s (.uartTransfer p n tmo) s.done
  | putcCount {b : Byte} {tmo : Option (BitVec 16)} (hl : s.fg.label = .l0) (hlive : s.ueng.live = true) :
      FgStep s (.uartPutc b tmo) ((setTxCount 1 s).goto .l2)
  | putcBegins {b : Byte} {tmo : Option (BitVec 16)} (hl : s.fg.label = .l2) :
      FgStep s (.uartPutc b tmo) ((setTxDone false s).goto .l3)
  | putcEnds {b : Byte} {tmo : Option (BitVec 16)} (hl : s.fg.label = .l5) : FgStep s (.uartPutc b tmo) s.done
  | putsStart {p : BitVec 32} {tmo : Option (BitVec 16)} (hl : s.fg.label = .l0) (hlive : s.ueng.live = true) :
      FgStep s (.uartPuts p tmo) ((s.setFg { s.fg with len := 0 }).goto .l1)
  | putsRead {p : BitVec 32} {tmo : Option (BitVec 16)} {v : Byte} (hl : s.fg.label = .l1) :
      FgStep s (.uartPuts p tmo) ((s.setFg { s.fg with b := v }).goto .l2)
  | putsScanned {p : BitVec 32} {tmo : Option (BitVec 16)} (hl : s.fg.label = .l2) :
      FgStep s (.uartPuts p tmo) (s.goto .l3)
  | putsGoesOn {p : BitVec 32} {tmo : Option (BitVec 16)} (hl : s.fg.label = .l2)
      (hlen : s.fg.len + 1 < 2 ^ s.cfg.countW) :
      FgStep s (.uartPuts p tmo) ((s.setFg { s.fg with len := s.fg.len + 1 }).goto .l1)
  | putsChecked {p : BitVec 32} {tmo : Option (BitVec 16)} (hl : s.fg.label = .l3) :
      FgStep s (.uartPuts p tmo) (s.goto .l4)
  | putsSession {p : BitVec 32} {tmo : Option (BitVec 16)} (hl : s.fg.label = .l4) :
      FgStep s (.uartPuts p tmo) (s.goto .x1)
  | putsCount {p : BitVec 32} {tmo : Option (BitVec 16)} (hl : s.fg.label = .x1) :
      FgStep s (.uartPuts p tmo) ((setTxCount s.fg.len s).goto .x2)
  | putsCursor {p : BitVec 32} {tmo : Option (BitVec 16)} {x : Sched} (hl : s.fg.label = .x2) :
      FgStep s (.uartPuts p tmo)
        (((s.setSched x).setUart { s.uart with txCursor := cursorAfter s p.toNat }).goto .x3)
  | putsBegins {p : BitVec 32} {tmo : Option (BitVec 16)} (hl : s.fg.label = .x3) :
      FgStep s (.uartPuts p tmo) ((setTxDone false s).goto .x4)
  | putsEnds {p : BitVec 32} {tmo : Option (BitVec 16)} (hl : s.fg.label = .x6) : FgStep s (.uartPuts p tmo) s.done
  | seeds {i : Instr} {v : Byte} (hl : seedLine i = some s.fg.label) (hempty : s.ueng.txregFull = .written false) :
      FgStep s i ((s.setUeng (uartFed v s.ueng)).goto .w0)
  | seedOverwrites {i : Instr} (hl : seedLine i = some s.fg.label) (hfull : s.ueng.txregFull = .written true) :
      FgStep s i (s.raise .fg .txbufOverwrite)
  | seedUnwritten {i : Instr} (hl : seedLine i = some s.fg.label) (hr : s.ueng.txregFull = .unwritten) :
      FgStep s i (s.raise .fg .unwrittenRead)
  | getcStart {tmo : Option (BitVec 16)} (hl : s.fg.label = .l0) (hlive : s.ueng.live = true) :
      FgStep s (.uartGetc tmo) ((s.setUart { s.uart with rxCount := 0 }).goto .l1)
  | getcBegins {tmo : Option (BitVec 16)} (hl : s.fg.label = .l1) :
      FgStep s (.uartGetc tmo) ((s.setUart { s.uart with rxAvailable := false }).goto .w0)
  | getcReceived {tmo : Option (BitVec 16)} (hl : s.fg.label = .l3) :
      FgStep s (.uartGetc tmo) ((s.setUart { s.uart with
        rxAvailable := if s.uart.rxCount = 1 then true else s.uart.rxAvailable }).goto .l4)
  | getcEnds {tmo : Option (BitVec 16)} (hl : s.fg.label = .l4) :
      FgStep s (.uartGetc tmo) (setRet s.uart.rxByte s).done
  | waitArms {i : Instr} {cond : Bool} {t : Nat} {exit : Label} (hw : waitOf s i = some (cond, some t, exit))
      (hl : s.fg.label = .w0) : FgStep s i ((tgArm t s).goto .w1)
  | waitStarts {i : Instr} {cond : Bool} {exit : Label} (hw : waitOf s i = some (cond, none, exit))
      (hl : s.fg.label = .w0) : FgStep s i (s.goto .w1)
  | waitChecks {i : Instr} {cond : Bool} {tmo : Option Nat} {exit : Label} (hw : waitOf s i = some (cond, tmo, exit))
      (hl : s.fg.label = .w1) (ha : s.cfg.waitAtomic = false) :
      FgStep s i ((s.setFg { s.fg with c := cond || tgTriggered tmo s.tg }).goto .w2)
  | waitLeaves {i : Instr} {cond : Bool} {tmo : Option Nat} {exit : Label} (hw : waitOf s i = some (cond, tmo, exit))
      (hl : s.fg.label = .w1 ∨ s.fg.label = .w2) : FgStep s i (s.goto .w5)
  | waitGoesOn {i : Instr} {cond : Bool} {tmo : Option Nat} {exit : Label} (hw : waitOf s i = some (cond, tmo, exit))
      (hl : s.fg.label = .w2) : FgStep s i (s.goto .w3)
  | waitSleeps {i : Instr} {cond : Bool} {tmo : Option Nat} {exit : Label} (hw : waitOf s i = some (cond, tmo, exit))
      (hl : s.fg.label = .w3 ∨ (s.fg.label = .w1 ∧ s.cfg.waitAtomic = true)) :
      FgStep s i ((s.setCpu { s.cpu with asleep := true }).goto .w4)
  | waitWakes {i : Instr} {cond : Bool} {tmo : Option Nat} {exit : Label} (hw : waitOf s i = some (cond, tmo, exit))
      (hl : s.fg.label = .w4) : FgStep s i (s.goto .w1)
  | waitReturns {i : Instr} {cond : Bool} {exit : Label} (hw : waitOf s i = some (cond, none, exit))
      (hl : s.fg.label = .w5) : FgStep s i (s.goto exit)
  | waitDisarms {i : Instr} {cond : Bool} {t : Nat} {exit : Label} (hw : waitOf s i = some (cond, some t, exit))
      (hl : s.fg.label = .w5) : FgStep s i ((tgDisarm s).goto exit)
  | i2cInitHold (hl : s.fg.label = .l0) :
      FgStep s .i2cInit ((s.setIeng { s.ieng with swrst := .written true }).goto .l1)
  | i2cInitMaster (hl : s.fg.label = .l1) :
      FgStep s .i2cInit ((s.setIeng { s.ieng with master := .written true }).goto .l2)
  | i2cInitClock (hl : s.fg.label = .l2) (hv : s.cfg.clkB < s.cfg.clockFreq.length) :
      FgStep s .i2cInit ((s.setIeng { s.ieng with clksel := .written s.cfg.clkB }).goto .l3)
  | i2cInitPresc (hl : s.fg.label = .l3) (hv : 1 ≤ s.cfg.i2cDiv ∧ s.cfg.i2cDiv < 2 ^ s.cfg.brW) :
      FgStep s .i2cInit ((s.setIeng { s.ieng with presc := .written s.cfg.i2cDiv }).goto .l4)
  | i2cInitRelease (hl : s.fg.label = .l4) (hheld : s.ieng.swrst = .written true) :
      FgStep s .i2cInit (((s.setIeng (i2cRelease { s.ieng with swrst := .written false })).setI2c
        { s.i2c with phase := .idle }).goto .l5)
  | i2cInitFree (hl : s.fg.label = .l4) (hfree : s.ieng.swrst ≠ .written true) :
      FgStep s .i2cInit ((s.setIeng { s.ieng with swrst := .written false }).goto .l5)
  | i2cInitTxIe (hl : s.fg.label = .l5) :
      FgStep s .i2cInit ((s.setIeng { s.ieng with txIe := .written true }).goto .l6)
  | i2cInitRxIe (hl : s.fg.label = .l6) :
      FgStep s .i2cInit ((s.setIeng { s.ieng with rxIe := .written true }).goto .l7)
  | i2cInitNackIe (hl : s.fg.label = .l7) :
      FgStep s .i2cInit (s.setIeng { s.ieng with nackIe := .written true }).done
  | i2cChecked {i : Instr} {dir : Dir} {a : SlaveAddr} {p n : Nat} {tmo : Option Nat}
      (hop : i2cOperands i = some (dir, a, p, n, tmo)) (hl : s.fg.label = .l0) (hlive : s.ieng.live = true) :
      FgStep s i (s.goto .l1)
  | i2cClaim {i : Instr} {dir : Dir} {a : SlaveAddr} {p n : Nat} {tmo : Option Nat}
      (hop : i2cOperands i = some (dir, a, p, n, tmo)) (hl : s.fg.label = .l1) :
      FgStep s i ((claim s.cfg.clkB s).goto .l2)
  | i2cDirTx {i : Instr} {dir : Dir} {a : SlaveAddr} {p n : Nat} {tmo : Option Nat}
      (hop : i2cOperands i = some (dir, a, p, n, tmo)) (hl : s.fg.label = .l2) :
      FgStep s i ((s.setIeng { s.ieng with dirTx := .written (dir == .send) }).goto .l3)
  | i2cAddr {i : Instr} {dir : Dir} {a : SlaveAddr} {p n : Nat} {tmo : Option Nat}
      (hop : i2cOperands i = some (dir, a, p, n, tmo)) (hl : s.fg.label = .l3) :
      FgStep s i ((s.setIeng { s.ieng with sa := .written a }).goto .l4)
  | i2cCount {i : Instr} {dir : Dir} {a : SlaveAddr} {p n : Nat} {tmo : Option Nat}
      (hop : i2cOperands i = some (dir, a, p, n, tmo)) (hl : s.fg.label = .l4) :
      FgStep s i ((s.setI2c { s.i2c with count := n }).goto .l5)
  | i2cCursor {i : Instr} {dir : Dir} {a : SlaveAddr} {p n : Nat} {tmo : Option Nat}
      (hop : i2cOperands i = some (dir, a, p, n, tmo)) (hl : s.fg.label = .l5) :
      FgStep s i ((s.setI2c { s.i2c with cursor := p }).goto .l6)
  | i2cBegins {i : Instr} {dir : Dir} {a : SlaveAddr} {p n : Nat} {tmo : Option Nat}
      (hop : i2cOperands i = some (dir, a, p, n, tmo)) (hl : s.fg.label = .l6) :
      FgStep s i ((s.setI2c { s.i2c with done := false }).goto .l7)
  | i2cDir {i : Instr} {dir : Dir} {a : SlaveAddr} {p n : Nat} {tmo : Option Nat}
      (hop : i2cOperands i = some (dir, a, p, n, tmo)) (hl : s.fg.label = .l7) :
      FgStep s i ((s.setI2c { s.i2c with dir := dir }).goto .l8)
  | i2cStart {i : Instr} {dir : Dir} {a : SlaveAddr} {p n : Nat} {tmo : Option Nat}
      (hop : i2cOperands i = some (dir, a, p, n, tmo)) (hl : s.fg.label = .l8) :
      FgStep s i ((requestStart s).goto .l9)
  | i2cSingle {i : Instr} {dir : Dir} {a : SlaveAddr} {p n : Nat} {tmo : Option Nat}
      (hop : i2cOperands i = some (dir, a, p, n, tmo)) (hl : s.fg.label = .l9) :
      FgStep s i (s.goto .l10)
  | i2cWaits {i : Instr} {dir : Dir} {a : SlaveAddr} {p n : Nat} {tmo : Option Nat}
      (hop : i2cOperands i = some (dir, a, p, n, tmo)) (hl : s.fg.label = .l9) :
      FgStep s i (s.goto .w0)
  | i2cStarted {i : Instr} {dir : Dir} {a : SlaveAddr} {p n : Nat} {tmo : Option Nat}
      (hop : i2cOperands i = some (dir, a, p, n, tmo)) (hl : s.fg.label = .l10) :
      FgStep s i (s.goto .l11)
  | i2cStop {i : Instr} {dir : Dir} {a : SlaveAddr} {p n : Nat} {tmo : Option Nat}
      (hop : i2cOperands i = some (dir, a, p, n, tmo)) (hl : s.fg.label = .l11) :
      FgStep s i ((requestStop s).goto .w0)
  | i2cDrained {i : Instr} {dir : Dir} {a : SlaveAddr} {p n : Nat} {tmo : Option Nat}
      (hop : i2cOperands i = some (dir, a, p, n, tmo)) (hl : s.fg.label = .l13) :
      FgStep s i (s.goto .l14)
  | i2cRelease {i : Instr} {dir : Dir} {a : SlaveAddr} {p n : Nat} {tmo : Option Nat}
      (hop : i2cOperands i = some (dir, a, p, n, tmo)) (hl : s.fg.label = .l14)
      (hcount : s.cfg.claimKind = .counter → 0 < claimCount s.claims s.cfg.clkB) :
      FgStep s i (releaseOne s.cfg.clkB s).done
  | transferUnderflows {i : Instr} {dir : Dir} {a : SlaveAddr} {p n : Nat} {tmo : Option Nat}
      (hop : i2cOperands i = some (dir, a, p, n, tmo)) (hl : s.fg.label = .l14) :
      FgStep s i (s.raise .fg .releaseUnderflow)
  | i2cUnwritten {i : Instr} {dir : Dir} {a : SlaveAddr} {p n : Nat} {tmo : Option Nat}
      (hop : i2cOperands i = some (dir, a, p, n, tmo))
      (hr : (s.ieng.startReq = .unwritten ∧ s.fg.label = .l10) ∨ (s.ieng.busBusy = .unwritten ∧ s.fg.label = .l13)) :
      FgStep s i (s.raise .fg .unwrittenRead)

section

variable {s t : State}

theorem fgStep_swuStatusRead (h : execSwuStatusRead s = .next t) : FgStep s .swuStatusRead t := by
  unfold execSwuStatusRead at h
  cases h
  split
  next hl => exact .swuStatusRead hl
  next => exact .stays

theorem fgStep_swuStatusClear (h : execSwuStatusClear s = .next t) : FgStep s .swuStatusClear t := by
  unfold execSwuStatusClear at h
  cases h
  split
  next hl => exact .swuStatusClear hl
  next => exact .stays

theorem fgStep_uartStatusRead (h : execUartStatusRead s = .next t) : FgStep s .uartStatusRead t := by
  unfold execUartStatusRead at h
  cases h
  split
  next hl => exact .uartStatusRead hl
  next => exact .stays

theorem fgStep_uartStatusClear (h : execUartStatusClear s = .next t) : FgStep s .uartStatusClear t := by
  unfold execUartStatusClear at h
  cases h
  split
  next hl => exact .uartStatusClear hl
  next => exact .stays

/-- A hold on the running deadline goes on, stays, or reads an unwritten deadline. -/
theorem holdDeadline_cases (s k : State) : holdDeadline s k = k ∨ holdDeadline s k = s
    ∨ (s.swu.dl = .unwritten ∧ holdDeadline s k = s.raise .fg .unwrittenRead) := by
  obtain ⟨dl, -, h⟩ | ⟨hdl, h⟩ := fetch_cases .fg s.swu.dl s fun dl => holdUntil (reached s.cfg s.ctr dl) s k
  · obtain ⟨-, hgo⟩ | ⟨-, hstay⟩ := holdUntil_cases (reached s.cfg s.ctr dl) s k
    · exact .inl (h.trans hgo)
    · exact .inr (.inl (h.trans hstay))
  · exact .inr (.inr ⟨hdl, h⟩)

/-- A hold of SWU_PUTC. -/
theorem fgStep_swuPutc_hold {b : Byte} {k : State} (hl : s.fg.label ∈ [Label.l3, .l6, .l10])
    (hk : FgStep s (.swuPutc b) k) : FgStep s (.swuPutc b) (holdDeadline s k) := by
  obtain h | h | ⟨hdl, h⟩ := holdDeadline_cases s k <;> rw [h]
  · exact hk
  · exact .stays
  · refine .swuPutcUnwritten (.inl ⟨hdl, ?_⟩)
    simp only [List.mem_cons, List.not_mem_nil, or_false] at hl ⊢
    tauto

/-- A hold of SWU_GETC. -/
theorem fgStep_swuGetc_hold {k : State} (hl : s.fg.label ∈ [Label.l2, .l4, .l8])
    (hk : FgStep s .swuGetc k) : FgStep s .swuGetc (holdDeadline s k) := by
  obtain h | h | ⟨hdl, h⟩ := holdDeadline_cases s k <;> rw [h]
  · exact hk
  · exact .stays
  · refine .swuGetcUnwritten (.inl ⟨hdl, ?_⟩)
    simp only [List.mem_cons, List.not_mem_nil, or_false] at hl ⊢
    tauto

theorem fgStep_swuPutc {b : Byte} (h : execSwuPutc b s = .next t) : FgStep s (.swuPutc b) t := by
  unfold execSwuPutc at h
  cases h
  split
  next hl => exact .swuPutcStart hl
  next hl => exact .swuPutcStartBit hl
  next hl =>
    cases hdl : s.swu.dl with
    | written dl => exact .swuPutcFirstDeadline hl hdl
    | unwritten => exact .swuPutcUnwritten (.inl ⟨hdl, by simp [hl]⟩)
  next hl => exact fgStep_swuPutc_hold (by simp [hl]) (.swuPutcFirstHeld hl)
  next hl =>
    cases hsh : s.swu.sh with
    | written sh => exact .swuPutcBit hl hsh
    | unwritten => exact .swuPutcUnwritten (.inr (.inl ⟨hsh, hl⟩))
  next hl =>
    cases hdl : s.swu.dl with
    | unwritten => exact .swuPutcUnwritten (.inl ⟨hdl, by simp [hl]⟩)
    | written dl =>
      cases hi : s.swu.i with
      | written i => exact .swuPutcDeadline hl hdl hi
      | unwritten => exact .swuPutcUnwritten (.inr (.inr ⟨hi, by simp [hl]⟩))
  next hl => exact fgStep_swuPutc_hold (by simp [hl]) (.swuPutcHeld hl)
  next hl =>
    cases hi : s.swu.i with
    | unwritten => exact .swuPutcUnwritten (.inr (.inr ⟨hi, by simp [hl]⟩))
    | written i =>
      rw [fetch_written]
      split_ifs with hlt
      · exact .swuPutcMore hl hi hlt
      · exact .swuPutcSent hl hi hlt
  next hl => exact .swuPutcStopBit hl
  next hl =>
    cases hdl : s.swu.dl with
    | written dl => exact .swuPutcLastDeadline hl hdl
    | unwritten => exact .swuPutcUnwritten (.inl ⟨hdl, by simp [hl]⟩)
  next hl => exact fgStep_swuPutc_hold (by simp [hl]) (.swuPutcEnds hl)
  next => exact .stays

theorem fgStep_swuGetc (h : execSwuGetc s = .next t) : FgStep s .swuGetc t := by
  unfold execSwuGetc at h
  cases h
  split
  next hl =>
    obtain ⟨-, h⟩ | ⟨-, h⟩ := holdUntil_cases (!s.line.rx) s (s.goto .l1) <;> rw [h]
    · exact .swuGetcEdge hl
    · exact .stays
  next hl => exact .swuGetcDelay hl
  next hl => exact fgStep_swuGetc_hold (by simp [hl]) (.swuGetcDelayed hl)
  next hl =>
    cases hdl : s.swu.dl with
    | written dl => exact .swuGetcDeadline hl hdl
    | unwritten => exact .swuGetcUnwritten (.inl ⟨hdl, by simp [hl]⟩)
  next hl => exact fgStep_swuGetc_hold (by simp [hl]) (.swuGetcHeld hl)
  next hl =>
    cases hacc : s.swu.acc with
    | unwritten => exact .swuGetcUnwritten (.inr (.inl ⟨hacc, by simp [hl]⟩))
    | written acc =>
      cases hi : s.swu.i with
      | written i => exact .swuGetcBit hl hacc hi
      | unwritten => exact .swuGetcUnwritten (.inr (.inr ⟨hi, by simp [hl]⟩))
  next hl =>
    cases hi : s.swu.i with
    | unwritten => exact .swuGetcUnwritten (.inr (.inr ⟨hi, by simp [hl]⟩))
    | written i =>
      rw [fetch_written]
      split_ifs with hlt
      · exact .swuGetcMore hl hi hlt
      · exact .swuGetcReceived hl hi hlt
  next hl =>
    cases hdl : s.swu.dl with
    | written dl => exact .swuGetcLastDeadline hl hdl
    | unwritten => exact .swuGetcUnwritten (.inl ⟨hdl, by simp [hl]⟩)
  next hl => exact fgStep_swuGetc_hold (by simp [hl]) (.swuGetcLastHeld hl)
  next hl => exact .swuGetcStopBit hl
  next hl =>
    cases hacc : s.swu.acc with
    | written acc => exact .swuGetcEnds hl hacc
    | unwritten => exact .swuGetcUnwritten (.inr (.inl ⟨hacc, by simp [hl]⟩))
  next => exact .stays

/-- A checked register write: the check is passed, or the operation is refused. -/
theorem fgStep_writeLegal {i : Instr} {legal : Bool} {k : State} (hi : CanRefuse i)
    (hk : legal = true → FgStep s i k) : FgStep s i (writeLegal legal s k) := by
  obtain ⟨hlegal, h⟩ | ⟨-, h⟩ := writeLegal_cases legal s k <;> rw [h]
  · exact hk hlegal
  · exact .refuses hi

theorem fgStep_uartInit (h : execUartInit s = .next t) : FgStep s .uartInit t := by
  unfold execUartInit at h
  cases h
  have hi : CanRefuse .uartInit := .inl rfl
  split
  next hl => exact .uartInitClaim hl
  next hl => rw [writeUartSwrst_true]; exact .uartInitHold hl
  next hl => exact fgStep_writeLegal hi fun hv => .uartInitDiv hl (by simpa using hv)
  next hl => exact fgStep_writeLegal hi fun hv => .uartInitRem hl (by simpa using hv)
  next hl => exact fgStep_writeLegal hi fun hv => .uartInitMod hl (by simpa using hv)
  next hl => exact fgStep_writeLegal hi fun hv => .uartInitClock hl (by simpa [Params.isClock] using hv)
  next hl =>
    obtain ⟨hheld, h⟩ | ⟨hfree, h⟩ := writeUartSwrst_false s <;> rw [h]
    · exact .uartInitRelease hl hheld
    · exact .uartInitFree hl hfree
  next hl => exact .uartInitTxIe hl
  next hl => exact .uartInitRxIe hl
  next => exact .stays

theorem fgStep_i2cInit (h : execI2cInit s = .next t) : FgStep s .i2cInit t := by
  unfold execI2cInit at h
  cases h
  have hi : CanRefuse .i2cInit := .inr (.inl rfl)
  split
  next hl => rw [writeI2cSwrst_true]; exact .i2cInitHold hl
  next hl => exact .i2cInitMaster hl
  next hl => exact fgStep_writeLegal hi fun hv => .i2cInitClock hl (by simpa [Params.isClock] using hv)
  next hl => exact fgStep_writeLegal hi fun hv => .i2cInitPresc hl (by simpa using hv)
  next hl =>
    obtain ⟨hheld, h⟩ | ⟨hfree, h⟩ := writeI2cSwrst_false s <;> rw [h]
    · exact .i2cInitRelease hl hheld
    · exact .i2cInitFree hl hfree
  next hl => exact .i2cInitTxIe hl
  next hl => exact .i2cInitRxIe hl
  next hl => exact .i2cInitNackIe hl
  next => exact .stays

theorem fgStep_uartEnable (h : execUartEnable s = .next t) : FgStep s .uartEnable t := by
  unfold execUartEnable at h
  cases h
  split
  next hl => exact .uartEnables hl
  next => exact .stays

theorem fgStep_i2cEnable (h : execI2cEnable s = .next t) : FgStep s .i2cEnable t := by
  unfold execI2cEnable at h
  cases h
  split
  next hl => exact .i2cEnables hl
  next => exact .stays

theorem fgStep_uartDisable (h : execUartDisable s = .next t) : FgStep s .uartDisable t := by
  unfold execUartDisable at h
  cases h
  split
  next hl =>
    obtain ⟨-, -, h⟩ | ⟨-, h⟩ := release_cases_one .fg s.cfg.clkA s State.done <;> rw [h]
    · exact .uartUnderflows hl
    · exact .uartDisables hl
  next => exact .stays

theorem fgStep_i2cDisable (h : execI2cDisable s = .next t) : FgStep s .i2cDisable t := by
  unfold execI2cDisable at h
  cases h
  split
  next hl =>
    obtain ⟨-, -, h⟩ | ⟨-, h⟩ := release_cases_one .fg s.cfg.clkB s State.done <;> rw [h]
    · exact .i2cUnderflows hl
    · exact .i2cDisables hl
  next => exact .stays

/-- The first line of an operation of a driver: refused where the engine was never released. -/
theorem fgStep_requireLive {i : Instr} {live : Bool} {k : State} (hi : CanRefuse i)
    (hk : live = true → FgStep s i k) : FgStep s i (requireLive live s k) := by
  obtain ⟨hlive, h⟩ | ⟨-, h⟩ := requireLive_cases live s k <;> rw [h]
  · exact hk hlive
  · exact .refuses hi

theorem fgStep_memRead {i : Instr} {a : Nat} {k : Byte → State} (hk : ∀ v, FgStep s i (k v)) :
    FgStep s i (memRead a s k) := by
  obtain ⟨-, h⟩ | ⟨-, h⟩ := memRead_cases a s k <;> rw [h]
  · exact hk _
  · exact .stays

theorem fgStep_seed {i : Instr} (v : Byte) (hl : seedLine i = some s.fg.label) : FgStep s i (seedUart v s) := by
  cases hreg : s.ueng.txregFull with
  | unwritten => rw [seedUart_of_unwritten _ hreg]; exact .seedUnwritten hl hreg
  | written full =>
    cases full
    · rw [seedUart_of_empty _ hreg]; exact .seeds hl hreg
    · rw [seedUart_of_full _ hreg]; exact .seedOverwrites hl hreg

theorem fgStep_wait {i : Instr} {cond : Bool} {tmo : Option Nat} {exit : Label}
    (hw : waitOf s i = some (cond, tmo, exit)) : FgStep s i (waitStep cond tmo exit s) := by
  obtain ⟨hl, t, rfl, h⟩ | ⟨hl, rfl, h⟩ | ⟨hl, -, -, h⟩ | ⟨hl, ha, -, h⟩ | ⟨hl, ha, h⟩ | ⟨hl, -, h⟩ | ⟨hl, -, h⟩
    | ⟨hl, h⟩ | ⟨-, -, h⟩ | ⟨hl, -, h⟩ | ⟨hl, rfl, h⟩ | ⟨hl, htmo, h⟩ | ⟨-, h⟩ := waitStep_cases cond tmo exit s <;> rw [h]
  · exact .waitArms hw hl
  · exact .waitStarts hw hl
  · exact .waitLeaves hw (.inl hl)
  · exact .waitSleeps hw (.inr ⟨hl, ha⟩)
  · exact .waitChecks hw hl ha
  · exact .waitLeaves hw (.inr hl)
  · exact .waitGoesOn hw hl
  · exact .waitSleeps hw (.inl hl)
  · exact .stays
  · exact .waitWakes hw hl
  · exact .waitReturns hw hl
  · obtain ⟨t, rfl⟩ := Option.ne_none_iff_exists'.1 htmo
    exact .waitDisarms hw hl
  · exact .stays

theorem fgStep_uartTransfer {p : BitVec 32} {n : BitVec 16} {tmo : Option (BitVec 16)}
    (h : execUartTransfer p n tmo s = .next t) : FgStep s (.uartTransfer p n tmo) t := by
  unfold execUartTransfer at h
  cases h
  have hi : CanRefuse (.uartTransfer p n tmo) := .inr (.inr (.inl rfl))
  split
  next hl =>
    refine fgStep_requireLive hi fun hlive => ?_
    split_ifs
    · exact .refuses hi
    · exact .refuses hi
    · exact .transferChecked hl hlive
  next hl => exact .transferCount hl
  next hl => rw [setTxCursorAfter, takeFree_eq]; exact .transferCursor hl
  next hl => exact .transferBegins hl
  next hl => exact fgStep_memRead fun v => fgStep_seed v (congrArg some hl.symm)
  next hl => exact .transferEnds hl
  next => exact fgStep_wait rfl

theorem fgStep_uartPutc {b : Byte} {tmo : Option (BitVec 16)} (h : execUartPutc b tmo s = .next t) :
    FgStep s (.uartPutc b tmo) t := by
  unfold execUartPutc at h
  cases h
  split
  next hl => exact fgStep_requireLive (.inr (.inr (.inl rfl))) fun hlive => .putcCount hl hlive
  next hl => exact .putcBegins hl
  next hl => exact fgStep_seed b (congrArg some hl.symm)
  next hl => exact .putcEnds hl
  next => exact fgStep_wait rfl

theorem fgStep_uartPuts {p : BitVec 32} {tmo : Option (BitVec 16)} (h : execUartPuts p tmo s = .next t) :
    FgStep s (.uartPuts p tmo) t := by
  unfold execUartPuts at h
  cases h
  have hi : CanRefuse (.uartPuts p tmo) := .inr (.inr (.inl rfl))
  split
  next hl => exact fgStep_requireLive hi fun hlive => .putsStart hl hlive
  next hl => exact fgStep_memRead fun v => .putsRead hl
  next hl =>
    split_ifs with hb hwraps
    · exact .putsScanned hl
    · exact .refuses hi
    · exact .putsGoesOn hl (by omega)
  next hl =>
    split_ifs
    · exact .refuses hi
    · exact .putsChecked hl
  next hl => exact .putsSession hl
  next hl => exact .putsCount hl
  next hl => rw [setTxCursorAfter, takeFree_eq]; exact .putsCursor hl
  next hl => exact .putsBegins hl
  next hl => exact fgStep_memRead fun v => fgStep_seed v (congrArg some hl.symm)
  next hl => exact .putsEnds hl
  next => exact fgStep_wait rfl

theorem fgStep_uartGetc {tmo : Option (BitVec 16)} (h : execUartGetc tmo s = .next t) : FgStep s (.uartGetc tmo) t := by
  cases hl : s.fg.label
  case l3 => exact Host.Outcome.next.inj ((exec_uartGetc_l3 tmo hl).symm.trans h) ▸ .getcReceived hl
  all_goals
    simp only [execUartGetc, hl, Host.Outcome.next.injEq] at h
    subst h
  case l0 => exact fgStep_requireLive (.inr (.inr (.inl rfl))) fun hlive => .getcStart hl hlive
  case l1 => exact .getcBegins hl
  case l4 => exact .getcEnds hl
  all_goals exact fgStep_wait rfl

theorem fgStep_i2cTransfer {i : Instr} {dir : Dir} {a : SlaveAddr} {p n : Nat} {tmo : Option Nat}
    (hop : i2cOperands i = some (dir, a, p, n, tmo)) : FgStep s i (i2cTransferStep dir a p n tmo s) := by
  have hsome : (i2cOperands i).isSome = true := by simp [hop]
  have hi : CanRefuse i := .inr (.inr (.inr hsome))
  unfold i2cTransferStep
  split
  next hl =>
    refine fgStep_requireLive hi fun hlive => ?_
    split_ifs
    · exact .refuses hi
    · exact .refuses hi
    · exact .i2cChecked hop hl hlive
  next hl => exact .i2cClaim hop hl
  next hl => exact .i2cDirTx hop hl
  next hl => exact .i2cAddr hop hl
  next hl => exact .i2cCount hop hl
  next hl => exact .i2cCursor hop hl
  next hl => exact .i2cBegins hop hl
  next hl => exact .i2cDir hop hl
  next hl => exact .i2cStart hop hl
  next hl =>
    split_ifs
    · exact .i2cSingle hop hl
    · exact .i2cWaits hop hl
  next hl =>
    cases hr : s.ieng.startReq with
    | unwritten => exact .i2cUnwritten hop (.inl ⟨hr, hl⟩)
    | written r =>
      rw [fetch_written]
      obtain ⟨-, h⟩ | ⟨-, h⟩ := holdUntil_cases (!r) s (s.goto .l11) <;> rw [h]
      · exact .i2cStarted hop hl
      · exact .stays
  next hl => exact .i2cStop hop hl
  next hl =>
    cases hr : s.ieng.busBusy with
    | unwritten => exact .i2cUnwritten hop (.inr ⟨hr, hl⟩)
    | written r =>
      rw [fetch_written]
      obtain ⟨-, h⟩ | ⟨-, h⟩ := holdUntil_cases (!r) s (s.goto .l14) <;> rw [h]
      · exact .i2cDrained hop hl
      · exact .stays
  next hl =>
    obtain ⟨-, -, h⟩ | ⟨hcount, h⟩ := release_cases_one .fg s.cfg.clkB s State.done <;> rw [h]
    · exact .transferUnderflows hop hl
    · exact .i2cRelease hop hl hcount
  next => exact fgStep_wait (waitOf_of_i2cOperands s hop)

/-- Every micro-step of a foreground operation is one of `FgStep`. -/
theorem fgStep_of_exec {i : Instr} (hi : issuer i = .fg) (h : exec i s = .next t) : FgStep s i t := by
  cases i
  case swuPutc => exact fgStep_swuPutc h
  case swuGetc => exact fgStep_swuGetc h
  case swuStatusRead => exact fgStep_swuStatusRead h
  case swuStatusClear => exact fgStep_swuStatusClear h
  case uartInit => exact fgStep_uartInit h
  case uartEnable => exact fgStep_uartEnable h
  case uartDisable => exact fgStep_uartDisable h
  case uartTransfer => exact fgStep_uartTransfer h
  case uartPutc => exact fgStep_uartPutc h
  case uartPuts => exact fgStep_uartPuts h
  case uartGetc => exact fgStep_uartGetc h
  case uartStatusRead => exact fgStep_uartStatusRead h
  case uartStatusClear => exact fgStep_uartStatusClear h
  case i2cInit => exact fgStep_i2cInit h
  case i2cEnable => exact fgStep_i2cEnable h
  case i2cDisable => exact fgStep_i2cDisable h
  case i2cTransfer => exact Host.Outcome.next.inj h ▸ fgStep_i2cTransfer rfl
  case i2cSend => exact Host.Outcome.next.inj h ▸ fgStep_i2cTransfer rfl
  case i2cReceive => exact Host.Outcome.next.inj h ▸ fgStep_i2cTransfer rfl
  all_goals cases hi

end

/-! ### The interrupt context -/

/-- The micro-step of an operation of the interrupt context at the label the state holds: one constructor per line, and per
outcome where a line has several. -/
inductive IrqStep (s : State) : Instr → State → Prop
  | stays {i : Instr} : IrqStep s i s
  | uartTxIdle (hl : s.irq.label = .t0) : IrqStep s .uartHandleTxIrq (s.irqReturn false)
  | uartTxReady (hl : s.irq.label = .t0) (hr : s.ueng.txReady = .written true) :
      IrqStep s .uartHandleTxIrq (s.irqGoto .t1)
  | uartTxCounts (hl : s.irq.label = .t1) : IrqStep s .uartHandleTxIrq ((s.setUart { s.uart with
      txCount := if 0 < s.uart.txCount then s.uart.txCount - 1 else s.uart.txCount }).irqGoto .t2)
  | uartTxMore (hl : s.irq.label = .t2) (hcount : 0 < s.uart.txCount) : IrqStep s .uartHandleTxIrq (s.irqGoto .t3)
  | uartTxLast (hl : s.irq.label = .t2) (hcount : s.uart.txCount = 0) : IrqStep s .uartHandleTxIrq (s.irqGoto .t5)
  | uartTxFeeds {v : Byte} (hl : s.irq.label = .t3) (hempty : s.ueng.txregFull = .written false) :
      IrqStep s .uartHandleTxIrq ((s.setUeng (uartFed v s.ueng)).irqGoto .t4)
  | uartTxOverwrites (hl : s.irq.label = .t3) (hfull : s.ueng.txregFull = .written true) :
      IrqStep s .uartHandleTxIrq (s.raise .irq .txbufOverwrite)
  | uartTxUnwritten (hl : s.irq.label = .t3) (hr : s.ueng.txregFull = .unwritten) :
      IrqStep s .uartHandleTxIrq (s.raise .irq .unwrittenRead)
  | uartTxCursor {x : Sched} (hl : s.irq.label = .t4) : IrqStep s .uartHandleTxIrq
      (((s.setSched x).setUart { s.uart with txCursor := cursorAfter s s.uart.txCursor }).irqReturn false)
  | uartTxDone (hl : s.irq.label = .t5) : IrqStep s .uartHandleTxIrq ((setTxDone true s).irqGoto .t6)
  | uartTxClears (hl : s.irq.label = .t6) :
      IrqStep s .uartHandleTxIrq ((s.setUeng { s.ueng with txReady := .written false }).irqGoto .t7)
  | uartTxKeeps (hl : s.irq.label = .t6) : IrqStep s .uartHandleTxIrq (s.irqGoto .t7)
  | uartTxWakes (hl : s.irq.label = .t7) : IrqStep s .uartHandleTxIrq (s.irqReturn true)
  | uartRxIdle (hl : s.irq.label = .q0) : IrqStep s .uartHandleRxIrq (s.irqReturn false)
  | uartRxReady (hl : s.irq.label = .q0) (hr : s.ueng.rxReady = .written true) :
      IrqStep s .uartHandleRxIrq (s.irqGoto .q1)
  | uartRxReads {v : Byte} (hl : s.irq.label = .q1) (hv : s.ueng.rxbuf = .written v) :
      IrqStep s .uartHandleRxIrq (((s.setUeng { s.ueng with rxReady := .written false }).setUart
        { s.uart with rxByte := v }).irqGoto .q2)
  | uartRxUnwritten (hl : s.irq.label = .q1) (hr : s.ueng.rxbuf = .unwritten) :
      IrqStep s .uartHandleRxIrq (s.raise .irq .unwrittenRead)
  | uartRxCounts (hl : s.irq.label = .q2) :
      IrqStep s .uartHandleRxIrq ((s.setUart { s.uart with rxCount := 1 }).irqGoto .q3)
  | uartRxWakes (hl : s.irq.label = .q3) : IrqStep s .uartHandleRxIrq (s.irqReturn true)
  | i2cTxIdle (hl : s.irq.label = .t0) : IrqStep s .i2cHandleTxIrq (s.irqReturn false)
  | i2cTxReady (hl : s.irq.label = .t0) (hr : s.ieng.txReady = .written true) :
      IrqStep s .i2cHandleTxIrq (s.irqGoto .t1)
  | i2cTxMore (hl : s.irq.label = .t1) (hcount : 0 < s.i2c.count) : IrqStep s .i2cHandleTxIrq (s.irqGoto .t2)
  | i2cTxLast (hl : s.irq.label = .t1) (hcount : s.i2c.count = 0) : IrqStep s .i2cHandleTxIrq (s.irqGoto .t5)
  | i2cTxFeeds {v : Byte} (hl : s.irq.label = .t2) (hempty : s.ieng.txregFull = .written false) :
      IrqStep s .i2cHandleTxIrq ((s.setIeng (i2cFed v s.ieng)).irqGoto .t3)
  | i2cTxOverwrites (hl : s.irq.label = .t2) (hfull : s.ieng.txregFull = .written true) :
      IrqStep s .i2cHandleTxIrq (s.raise .irq .txbufOverwrite)
  | i2cTxUnwritten (hl : s.irq.label = .t2) (hr : s.ieng.txregFull = .unwritten) :
      IrqStep s .i2cHandleTxIrq (s.raise .irq .unwrittenRead)
  | i2cTxCursor {x : Sched} (hl : s.irq.label = .t3) : IrqStep s .i2cHandleTxIrq
      (((s.setSched x).setI2c { s.i2c with cursor := cursorAfter s s.i2c.cursor }).irqGoto .t4)
  | i2cTxCounts (hl : s.irq.label = .t4) : IrqStep s .i2cHandleTxIrq ((decI2cCount s).irqReturn false)
  | i2cTxStops (hl : s.irq.label = .t5) : IrqStep s .i2cHandleTxIrq ((requestStop s).irqGoto .t6)
  | i2cTxDone (hl : s.irq.label = .t6) : IrqStep s .i2cHandleTxIrq ((setI2cDone s).irqGoto .t7)
  | i2cTxClears (hl : s.irq.label = .t7) :
      IrqStep s .i2cHandleTxIrq ((s.setIeng { s.ieng with txReady := .written false }).irqGoto .t8)
  | i2cTxKeeps (hl : s.irq.label = .t7) : IrqStep s .i2cHandleTxIrq (s.irqGoto .t8)
  | i2cTxWakes (hl : s.irq.label = .t8) : IrqStep s .i2cHandleTxIrq (s.irqReturn true)
  | i2cRxNack (hl : s.irq.label = .n0) : IrqStep s .i2cHandleRxIrq (s.irqGoto .n1)
  | i2cRxNoNack (hl : s.irq.label = .n0) : IrqStep s .i2cHandleRxIrq (s.irqGoto .q0)
  | i2cRxClearsNack (hl : s.irq.label = .n1) :
      IrqStep s .i2cHandleRxIrq ((s.setIeng { s.ieng with nack := .written false }).irqGoto .n2)
  | i2cRxRetries (hl : s.irq.label = .n2) :
      IrqStep s .i2cHandleRxIrq (((requestStart s).setI2c { s.i2c with retries := s.i2c.retries + 1 }).irqGoto .n3)
  | i2cRxRetried (hl : s.irq.label = .n3) : IrqStep s .i2cHandleRxIrq (s.irqReturn false)
  | i2cRxIdle (hl : s.irq.label = .q0) : IrqStep s .i2cHandleRxIrq (s.irqReturn false)
  | i2cRxReady (hl : s.irq.label = .q0) (hr : s.ieng.rxReady = .written true) :
      IrqStep s .i2cHandleRxIrq (s.irqGoto .q1)
  | i2cRxPreStops (hl : s.irq.label = .q1) : IrqStep s .i2cHandleRxIrq ((requestStop s).irqGoto .q2)
  | i2cRxNoPreStop (hl : s.irq.label = .q1) : IrqStep s .i2cHandleRxIrq (s.irqGoto .q2)
  | i2cRxReads {v : Byte} (hl : s.irq.label = .q2) (hv : s.ieng.rxbuf = .written v) :
      IrqStep s .i2cHandleRxIrq (((s.setIeng { s.ieng with rxReady := .written false }).setIrq
        { s.irq with r := v }).irqGoto .q3)
  | i2cRxUnwritten (hl : s.irq.label = .q2) (hr : s.ieng.rxbuf = .unwritten) :
      IrqStep s .i2cHandleRxIrq (s.raise .irq .unwrittenRead)
  | i2cRxDrops (hl : s.irq.label = .q3) : IrqStep s .i2cHandleRxIrq (s.irqReturn false)
  | i2cRxTakes (hl : s.irq.label = .q3) (hcount : 0 < s.i2c.count) : IrqStep s .i2cHandleRxIrq (s.irqGoto .q4)
  | i2cRxStores (hl : s.irq.label = .q4) (hadm : s.admitted s.i2c.cursor = true) :
      IrqStep s .i2cHandleRxIrq ((s.setMem (memSet s.mem s.i2c.cursor s.irq.r)).irqGoto .q5)
  | i2cRxCursor {x : Sched} (hl : s.irq.label = .q5) : IrqStep s .i2cHandleRxIrq
      (((s.setSched x).setI2c { s.i2c with cursor := cursorAfter s s.i2c.cursor }).irqGoto .q6)
  | i2cRxCounts (hl : s.irq.label = .q6) : IrqStep s .i2cHandleRxIrq ((decI2cCount s).irqGoto .q7)
  | i2cRxPostStops (hl : s.irq.label = .q7) : IrqStep s .i2cHandleRxIrq ((requestStop s).irqGoto .q8)
  | i2cRxNoPostStop (hl : s.irq.label = .q7) : IrqStep s .i2cHandleRxIrq (s.irqGoto .q8)
  | i2cRxDone (hl : s.irq.label = .q8) (hcount : s.i2c.count = 0) :
      IrqStep s .i2cHandleRxIrq ((setI2cDone s).irqReturn true)
  | i2cRxMore (hl : s.irq.label = .q8) : IrqStep s .i2cHandleRxIrq (s.irqGoto .q9)
  | i2cRxReturns (hl : s.irq.label = .q9) : IrqStep s .i2cHandleRxIrq (s.irqReturn false)
  | dispatchCalls {num : Byte} {v : Vec} {j : Nat} {w : Bool} {h : Handler} (hctx : s.cpu.ctx = .irq v j w)
      (hnum : vecOf s.cfg num = some v) (hl : s.irq.label = .d0) (hj : (s.cfg.dispatchOrder v)[j]? = some h) :
      IrqStep s (.dispatch num) (s.irqGoto (handlerEntry h))
  | dispatchLeaves {num : Byte} {v : Vec} {j : Nat} {w : Bool} (hctx : s.cpu.ctx = .irq v j w)
      (hnum : vecOf s.cfg num = some v) (hl : s.irq.label = .d0) : IrqStep s (.dispatch num) (s.irqGoto .d3)
  | dispatchAdvances {num : Byte} {v : Vec} {j : Nat} {w : Bool} (hctx : s.cpu.ctx = .irq v j w)
      (hnum : vecOf s.cfg num = some v) (hl : s.irq.label = .d2) :
      IrqStep s (.dispatch num) ((s.setCpu { s.cpu with ctx := .irq v (j + 1) (w || s.irq.wh) }).irqGoto
        (if s.cfg.shortCircuit && (w || s.irq.wh) then .d3 else .d0))
  | tickClears (hl : s.irq.label = .k0) : IrqStep s .tickIsr ((s.setTickPending false).irqGoto .k1)
  | tickTicks (hl : s.irq.label = .k1) :
      IrqStep s .tickIsr (((s.setTg (tgTick s.tg)).setIrq { s.irq with wh := tgWake s.cfg s.tg }).irqGoto .k2)
  | exits {i : Instr} {b w : Bool} (hi : (i = .tickIsr ∧ s.irq.label = .k2) ∨ ∃ num, i = .dispatch num ∧ s.irq.label = .d3)
      (hsaved : s.cpu.saved = .written b) :
      IrqStep s i (s.setCpu { s.cpu with gie := true, asleep := b && !w, ctx := .fg })
  | exitUnwritten {i : Instr} (hi : (i = .tickIsr ∧ s.irq.label = .k2) ∨ ∃ num, i = .dispatch num ∧ s.irq.label = .d3)
      (hsaved : s.cpu.saved = .unwritten) (hctx : i ≠ .tickIsr → s.cpu.ctx ≠ .fg) :
      IrqStep s i (s.raise .irq .unwrittenRead)

section

variable {s t : State}

theorem irqStep_probe {i : Instr} {r : Reg Bool} {k k' : State} (hk : r = .written true → IrqStep s i k)
    (hk' : IrqStep s i k') : IrqStep s i (if isOne r then k else k') := by
  split_ifs with hr
  · exact hk ((isOne_iff r).1 hr)
  · exact hk'

theorem irqStep_uartTx (h : execUartHandleTxIrq s = .next t) : IrqStep s .uartHandleTxIrq t := by
  unfold execUartHandleTxIrq at h
  cases h
  split
  next hl => exact irqStep_probe (.uartTxReady hl) (.uartTxIdle hl)
  next hl => rw [ite_setTxCount]; exact .uartTxCounts hl
  next hl =>
    split_ifs with hcount
    · exact .uartTxMore hl hcount
    · exact .uartTxLast hl (by omega)
  next hl =>
    obtain ⟨-, h⟩ | ⟨-, h⟩ := memRead_cases s.uart.txCursor s fun v => writeUartTxbuf .irq v s fun s => s.irqGoto .t4 <;>
      rw [h]
    · obtain ⟨hempty, h⟩ | ⟨hfull, h⟩ | ⟨hr, h⟩ := writeUartTxbuf_cases .irq (memGet s.mem s.uart.txCursor) s
        fun s => s.irqGoto .t4 <;> rw [h]
      · exact .uartTxFeeds hl hempty
      · exact .uartTxOverwrites hl hfull
      · exact .uartTxUnwritten hl hr
    · exact .stays
  next hl => rw [setTxCursorAfter, takeFree_eq]; exact .uartTxCursor hl
  next hl => exact .uartTxDone hl
  next hl =>
    split
    · exact .uartTxClears hl
    · exact .uartTxKeeps hl
  next hl => exact .uartTxWakes hl
  next => exact .stays

theorem irqStep_uartRx (h : execUartHandleRxIrq s = .next t) : IrqStep s .uartHandleRxIrq t := by
  unfold execUartHandleRxIrq at h
  cases h
  split
  next hl => exact irqStep_probe (.uartRxReady hl) (.uartRxIdle hl)
  next hl =>
    obtain ⟨v, hv, h⟩ | ⟨hr, h⟩ := readUartRxbuf_cases .irq s
      fun v t => (t.setUart { t.uart with rxByte := v }).irqGoto .q2 <;> rw [h]
    · exact .uartRxReads hl hv
    · exact .uartRxUnwritten hl hr
  next hl => exact .uartRxCounts hl
  next hl => exact .uartRxWakes hl
  next => exact .stays

theorem irqStep_i2cTx (h : execI2cHandleTxIrq s = .next t) : IrqStep s .i2cHandleTxIrq t := by
  unfold execI2cHandleTxIrq at h
  cases h
  split
  next hl => exact irqStep_probe (.i2cTxReady hl) (.i2cTxIdle hl)
  next hl =>
    split_ifs with hcount
    · exact .i2cTxMore hl hcount
    · exact .i2cTxLast hl (by omega)
  next hl =>
    obtain ⟨-, h⟩ | ⟨-, h⟩ := memRead_cases s.i2c.cursor s fun v => writeI2cTxbuf .irq v s fun s => s.irqGoto .t3 <;>
      rw [h]
    · obtain ⟨hempty, h⟩ | ⟨hfull, h⟩ | ⟨hr, h⟩ := writeI2cTxbuf_cases .irq (memGet s.mem s.i2c.cursor) s
        fun s => s.irqGoto .t3 <;> rw [h]
      · exact .i2cTxFeeds hl hempty
      · exact .i2cTxOverwrites hl hfull
      · exact .i2cTxUnwritten hl hr
    · exact .stays
  next hl => rw [bumpI2cCursor, takeFree_eq]; exact .i2cTxCursor hl
  next hl => exact .i2cTxCounts hl
  next hl => exact .i2cTxStops hl
  next hl => exact .i2cTxDone hl
  next hl =>
    split
    · exact .i2cTxClears hl
    · exact .i2cTxKeeps hl
  next hl => exact .i2cTxWakes hl
  next => exact .stays

theorem irqStep_i2cRx (h : execI2cHandleRxIrq s = .next t) : IrqStep s .i2cHandleRxIrq t := by
  unfold execI2cHandleRxIrq at h
  cases h
  split
  next hl => exact irqStep_probe (fun _ => .i2cRxNack hl) (.i2cRxNoNack hl)
  next hl => exact .i2cRxClearsNack hl
  next hl => exact .i2cRxRetries hl
  next hl => exact .i2cRxRetried hl
  next hl => exact irqStep_probe (.i2cRxReady hl) (.i2cRxIdle hl)
  next hl =>
    split_ifs
    · exact .i2cRxPreStops hl
    · exact .i2cRxNoPreStop hl
  next hl =>
    obtain ⟨v, hv, h⟩ | ⟨hr, h⟩ := readI2cRxbuf_cases .irq s
      fun v t => (t.setIrq { t.irq with r := v }).irqGoto .q3 <;> rw [h]
    · exact .i2cRxReads hl hv
    · exact .i2cRxUnwritten hl hr
  next hl =>
    split_ifs with hcount
    · exact .i2cRxDrops hl
    · exact .i2cRxTakes hl (by omega)
  next hl =>
    obtain ⟨hadm, h⟩ | ⟨-, h⟩ := memWrite_cases s.i2c.cursor s.irq.r s fun s => s.irqGoto .q5 <;> rw [h]
    · exact .i2cRxStores hl hadm
    · exact .stays
  next hl => rw [bumpI2cCursor, takeFree_eq]; exact .i2cRxCursor hl
  next hl => exact .i2cRxCounts hl
  next hl =>
    split_ifs
    · exact .i2cRxPostStops hl
    · exact .i2cRxNoPostStop hl
  next hl =>
    split_ifs with hcount
    · exact .i2cRxDone hl hcount
    · exact .i2cRxMore hl
  next hl => exact .i2cRxReturns hl
  next => exact .stays

theorem irqStep_exit {i : Instr} (w : Bool)
    (hi : (i = .tickIsr ∧ s.irq.label = .k2) ∨ ∃ num, i = .dispatch num ∧ s.irq.label = .d3)
    (hctx : i ≠ .tickIsr → s.cpu.ctx ≠ .fg) : IrqStep s i (irqExit w s) := by
  obtain ⟨b, hsaved, h⟩ | ⟨hsaved, h⟩ := irqExit_cases w s <;> rw [h]
  · exact .exits hi hsaved
  · exact .exitUnwritten hi hsaved hctx

theorem irqStep_dispatch {num : Byte} (h : execDispatch num s = .next t) : IrqStep s (.dispatch num) t := by
  unfold execDispatch at h
  cases h
  split
  next v j w v' hctx hnum =>
    by_cases hv : v = v'
    · subst hv
      rw [if_pos rfl]
      split
      next hl =>
        split
        · exact .dispatchLeaves hctx hnum hl
        next h hj => exact .dispatchCalls hctx hnum hl hj
      next hl => exact .dispatchAdvances hctx hnum hl
      next hl => exact irqStep_exit w (.inr ⟨num, rfl, hl⟩) fun _ => by simp [hctx]
      next => exact .stays
    · rw [if_neg hv]
      exact .stays
  next => exact .stays

theorem irqStep_tickIsr (h : execTickIsr s = .next t) : IrqStep s .tickIsr t := by
  unfold execTickIsr at h
  cases h
  split
  next hl => exact .tickClears hl
  next hl => exact .tickTicks hl
  next hl => exact irqStep_exit s.irq.wh (.inl ⟨rfl, hl⟩) fun h => absurd rfl h
  next => exact .stays

/-- Every micro-step of an operation of the interrupt context is one of `IrqStep`. -/
theorem irqStep_of_exec {i : Instr} (hi : issuer i = .irq) (h : exec i s = .next t) : IrqStep s i t := by
  cases i
  case uartHandleTxIrq => exact irqStep_uartTx h
  case uartHandleRxIrq => exact irqStep_uartRx h
  case i2cHandleTxIrq => exact irqStep_i2cTx h
  case i2cHandleRxIrq => exact irqStep_i2cRx h
  case dispatch => exact irqStep_dispatch h
  case tickIsr => exact irqStep_tickIsr h
  all_goals cases hi

end

end Sys2Proof.Machine
end

section
/-! PROOFS. Frames: what a micro-step of either context leaves unchanged, in general and by kind of operation. -/

namespace Sys2Proof.Machine

/-! ### The foreground -/

section

variable {s t : State} {i : Instr}

/-- The frame of every foreground micro-step: an element that is not named here, or not named inside its record, stays. -/
theorem FgStep.frame (h : FgStep s i t) : t = { s with
    fg := { t.fg with prog := s.fg.prog }, swu := t.swu, line := { s.line with tx := t.line.tx }, uart := t.uart,
    ueng := t.ueng, i2c := t.i2c, ieng := t.ieng, claims := t.claims, cpu := { s.cpu with asleep := t.cpu.asleep },
    tg := t.tg, fault := t.fault, refused := t.refused, trace := t.trace, sched := t.sched } := by
  cases h <;> rfl

theorem FgStep.status_frame (h : FgStep s i t)
    (hi : i ∈ [Instr.swuStatusRead, .swuStatusClear, .uartStatusRead, .uartStatusClear]) : t = { s with
      fg := t.fg,
      swu := { s.swu with framingError := t.swu.framingError, rxAvailable := t.swu.rxAvailable },
      uart := { s.uart with framingError := t.uart.framingError, rxAvailable := t.uart.rxAvailable } } := by
  simp only [List.mem_cons, List.not_mem_nil, or_false] at hi
  obtain rfl | rfl | rfl | rfl := hi <;> cases h <;> try rfl
  all_goals simp_all [CanRefuse, needsUart, i2cOperands, waitOf, seedLine]

theorem FgStep.swuPutc_frame {b : Byte} (h : FgStep s (.swuPutc b) t) : t = { s with
    fg := { t.fg with ret := s.fg.ret }, line := t.line, trace := t.trace, fault := t.fault,
    swu := { t.swu with framingError := s.swu.framingError, rxAvailable := s.swu.rxAvailable } } := by
  cases h <;> try rfl
  all_goals simp_all [CanRefuse, needsUart, i2cOperands, waitOf, seedLine]

theorem FgStep.swuGetc_frame (h : FgStep s .swuGetc t) : t = { s with
    fg := t.fg, trace := t.trace, fault := t.fault, swu := t.swu } := by
  cases h <;> try rfl
  all_goals simp_all [CanRefuse, needsUart, i2cOperands, waitOf, seedLine]

theorem FgStep.clock_frame (h : FgStep s i t)
    (hi : i ∈ [Instr.uartEnable, .uartDisable, .i2cEnable, .i2cDisable]) : t = { s with
      fg := { t.fg with ret := s.fg.ret }, claims := t.claims, fault := t.fault } := by
  simp only [List.mem_cons, List.not_mem_nil, or_false] at hi
  obtain rfl | rfl | rfl | rfl := hi <;> cases h <;> try rfl
  all_goals simp_all [CanRefuse, needsUart, i2cOperands, waitOf, seedLine]

theorem FgStep.uartInit_frame (h : FgStep s .uartInit t) : t = { s with
    fg := { t.fg with ret := s.fg.ret }, ueng := t.ueng, claims := t.claims, refused := t.refused } := by
  cases h <;> try rfl
  all_goals simp_all [i2cOperands, waitOf, seedLine]

/-- A timed operation belongs to one driver. -/
theorem i2cOperands_of_needsUart (hi : needsUart i = true) : i2cOperands i = none := by
  cases i <;> first | rfl | cases hi

theorem seedLine_of_i2cOperands (hi : (i2cOperands i).isSome = true) : seedLine i = none := by
  cases i <;> first | rfl | cases hi

/-- The four timed operations of the UART driver, and the four engine registers that a seed writes. -/
theorem FgStep.uart_frame (h : FgStep s i t) (hi : needsUart i = true) : t = { s with
    fg := t.fg, uart := { t.uart with rxByte := s.uart.rxByte, framingError := s.uart.framingError },
    ueng := { s.ueng with txbuf := t.ueng.txbuf, txreg := t.ueng.txreg, txregFull := t.ueng.txregFull,
                          txReady := t.ueng.txReady },
    cpu := t.cpu, tg := t.tg, fault := t.fault, refused := t.refused, sched := t.sched } := by
  have hno := i2cOperands_of_needsUart hi
  cases h <;> try rfl
  all_goals simp_all [needsUart]

theorem FgStep.i2cInit_frame (h : FgStep s .i2cInit t) : t = { s with
    fg := { t.fg with ret := s.fg.ret }, ieng := t.ieng, i2c := { s.i2c with phase := t.i2c.phase },
    refused := t.refused } := by
  cases h <;> try rfl
  all_goals simp_all [i2cOperands, waitOf, seedLine]

/-- The three I2C transfers, and the four engine registers that they write. -/
theorem FgStep.i2cTransfer_frame (h : FgStep s i t) (hi : (i2cOperands i).isSome = true) : t = { s with
    fg := { t.fg with ret := s.fg.ret }, claims := t.claims,
    i2c := { t.i2c with phase := s.i2c.phase, retries := s.i2c.retries },
    ieng := { s.ieng with dirTx := t.ieng.dirTx, sa := t.ieng.sa, startReq := t.ieng.startReq,
                          stopReq := t.ieng.stopReq },
    cpu := t.cpu, tg := t.tg, fault := t.fault, refused := t.refused } := by
  have hno := seedLine_of_i2cOperands hi
  cases h <;> try rfl
  all_goals simp_all [i2cOperands]

end

/-- Settles O51: each clause is read off the frame of its kind of operation. -/
theorem foregroundFrames : Obligations.ForegroundFrames := by
  intro i s t hi hexec
  have h : FgStep s i t := fgStep_of_exec hi hexec
  refine ⟨(congrArg State.mem h.frame :), (congrArg State.irq h.frame :), (congrArg State.cpu h.frame :),
    (congrArg State.ctr h.frame :), (congrArg State.tickPending h.frame :), (congrArg (·.line.rx) h.frame :),
    (congrArg State.cfg h.frame :), (congrArg State.adm h.frame :), (congrArg (·.fg.prog) h.frame :),
    fun hk => ?status, ?swu, fun hk => ?clock, ?uart, ?i2c⟩
  case status =>
    have hf := h.status_frame hk
    exact ⟨(congrArg State.uart hf :), (congrArg State.swu hf :), (congrArg State.ueng hf :), (congrArg State.ieng hf :),
      (congrArg State.i2c hf :), (congrArg State.claims hf :), (congrArg State.tg hf :), (congrArg State.line hf :),
      (congrArg State.cpu hf :), (congrArg State.trace hf :), (congrArg State.fault hf :), (congrArg State.refused hf :)⟩
  case swu =>
    rintro (rfl | ⟨b, rfl⟩)
    · have hf := h.swuGetc_frame
      exact ⟨(congrArg State.uart hf :), (congrArg State.ueng hf :), (congrArg State.i2c hf :), (congrArg State.ieng hf :),
        (congrArg State.claims hf :), (congrArg State.tg hf :), (congrArg State.cpu hf :), (congrArg State.refused hf :),
        fun _ => (congrArg State.line hf :), fun hne => absurd rfl hne⟩
    · have hf := h.swuPutc_frame
      exact ⟨(congrArg State.uart hf :), (congrArg State.ueng hf :), (congrArg State.i2c hf :), (congrArg State.ieng hf :),
        (congrArg State.claims hf :), (congrArg State.tg hf :), (congrArg State.cpu hf :), (congrArg State.refused hf :), nofun,
        fun _ => ⟨(congrArg (·.fg.ret) hf :), (congrArg (·.swu.framingError) hf :), (congrArg (·.swu.rxAvailable) hf :)⟩⟩
  case clock =>
    have hf := h.clock_frame hk
    exact ⟨(congrArg State.swu hf :), (congrArg State.uart hf :), (congrArg State.ueng hf :), (congrArg State.i2c hf :),
      (congrArg State.ieng hf :), (congrArg State.tg hf :), (congrArg State.line hf :), (congrArg State.cpu hf :),
      (congrArg State.trace hf :), (congrArg State.refused hf :), (congrArg (·.fg.ret) hf :)⟩
  case uart =>
    rintro (rfl | hk)
    · have hf := h.uartInit_frame
      exact ⟨(congrArg State.swu hf :), (congrArg State.i2c hf :), (congrArg State.ieng hf :), (congrArg State.line hf :),
        (congrArg State.trace hf :),
        fun _ => ⟨(congrArg State.uart hf :), (congrArg State.tg hf :), (congrArg State.cpu hf :), (congrArg (·.fg.ret) hf :)⟩,
        fun hne => absurd rfl hne⟩
    · have hf := h.uart_frame hk
      exact ⟨(congrArg State.swu hf :), (congrArg State.i2c hf :), (congrArg State.ieng hf :), (congrArg State.line hf :),
        (congrArg State.trace hf :), fun heq => by simp [heq, needsUart] at hk,
        fun _ => ⟨(congrArg State.claims hf :), (congrArg (·.uart.rxByte) hf :), (congrArg (·.uart.framingError) hf :),
          (congrArg State.ueng hf :)⟩⟩
  case i2c =>
    rintro (rfl | hk)
    · have hf := h.i2cInit_frame
      exact ⟨(congrArg State.swu hf :), (congrArg State.uart hf :), (congrArg State.ueng hf :), (congrArg State.line hf :),
        (congrArg State.trace hf :), (congrArg (·.fg.ret) hf :),
        fun _ => ⟨(congrArg State.claims hf :), (congrArg State.tg hf :), (congrArg State.cpu hf :), (congrArg State.i2c hf :)⟩,
        fun hne => absurd rfl hne⟩
    · have hf := h.i2cTransfer_frame hk
      exact ⟨(congrArg State.swu hf :), (congrArg State.uart hf :), (congrArg State.ueng hf :), (congrArg State.line hf :),
        (congrArg State.trace hf :), (congrArg (·.fg.ret) hf :), fun heq => by simp [heq, i2cOperands] at hk,
        fun _ => ⟨(congrArg (·.i2c.phase) hf :), (congrArg (·.i2c.retries) hf :), (congrArg State.ieng hf :)⟩⟩

/-! ### The interrupt context -/

section

variable {s t : State} {i : Instr}

/-- The frame of every micro-step of the interrupt context. -/
theorem IrqStep.frame (h : IrqStep s i t) : t = { s with
    uart := { t.uart with framingError := s.uart.framingError, rxAvailable := s.uart.rxAvailable },
    ueng := t.ueng, i2c := { t.i2c with dir := s.i2c.dir, phase := s.i2c.phase }, ieng := t.ieng, cpu := t.cpu,
    irq := t.irq, tickPending := t.tickPending, tg := t.tg, mem := t.mem, fault := t.fault, sched := t.sched } := by
  cases h <;> rfl

theorem IrqStep.uartTx_frame (h : IrqStep s .uartHandleTxIrq t) : t = { s with
    uart := { s.uart with txCount := t.uart.txCount, txCursor := t.uart.txCursor, txDone := t.uart.txDone },
    ueng := t.ueng, irq := t.irq, fault := t.fault, sched := t.sched } := by
  cases h <;> try rfl
  all_goals simp_all

theorem IrqStep.uartRx_frame (h : IrqStep s .uartHandleRxIrq t) : t = { s with
    uart := { s.uart with rxCount := t.uart.rxCount, rxByte := t.uart.rxByte },
    ueng := t.ueng, irq := t.irq, fault := t.fault } := by
  cases h <;> try rfl
  all_goals simp_all

theorem IrqStep.i2cTx_frame (h : IrqStep s .i2cHandleTxIrq t) : t = { s with
    i2c := { t.i2c with dir := s.i2c.dir, phase := s.i2c.phase },
    ieng := t.ieng, irq := t.irq, fault := t.fault, sched := t.sched } := by
  cases h <;> try rfl
  all_goals simp_all

theorem IrqStep.i2cRx_frame (h : IrqStep s .i2cHandleRxIrq t) : t = { s with
    i2c := { t.i2c with dir := s.i2c.dir, phase := s.i2c.phase },
    ieng := t.ieng, irq := t.irq, mem := t.mem, fault := t.fault, sched := t.sched } := by
  cases h <;> try rfl
  all_goals simp_all

theorem IrqStep.dispatch_frame {num : Byte} (h : IrqStep s (.dispatch num) t) : t = { s with
    cpu := t.cpu, irq := t.irq, fault := t.fault } := by
  cases h <;> rfl

theorem IrqStep.tick_frame (h : IrqStep s .tickIsr t) : t = { s with
    cpu := t.cpu, irq := t.irq, fault := t.fault, tg := t.tg, tickPending := t.tickPending } := by
  cases h <;> rfl

/-- The only store: the I2C receive handler's, at its line Q4, of one byte at the cursor (R235). -/
theorem IrqStep.mem_cases (h : IrqStep s i t) : t.mem = s.mem ∨ (i = .i2cHandleRxIrq ∧ s.irq.label = .q4
    ∧ s.admitted s.i2c.cursor = true ∧ t.mem = memSet s.mem s.i2c.cursor s.irq.r) := by
  cases h
  case i2cRxStores hl hadm => exact .inr ⟨rfl, hl, hadm, rfl⟩
  all_goals exact .inl rfl

end

/-- Settles O52: each clause is read off the frame of its kind of operation, and the store off `IrqStep.mem_cases`. -/
theorem interruptFrames : Obligations.InterruptFrames := by
  intro i s t hi hexec
  have h : IrqStep s i t := irqStep_of_exec hi hexec
  refine ⟨(congrArg State.fg h.frame :), (congrArg State.swu h.frame :), (congrArg State.line h.frame :),
    (congrArg State.claims h.frame :), (congrArg State.ctr h.frame :), (congrArg State.trace h.frame :),
    (congrArg State.cfg h.frame :), (congrArg State.adm h.frame :), (congrArg State.refused h.frame :), ?uart, ?i2c, ?own⟩
  case uart =>
    rintro (rfl | rfl)
    · have hf := h.uartTx_frame
      exact ⟨(congrArg State.i2c hf :), (congrArg State.ieng hf :), (congrArg State.cpu hf :), (congrArg State.tg hf :),
        (congrArg State.tickPending hf :), (congrArg State.mem hf :), (congrArg (·.uart.framingError) hf :),
        (congrArg (·.uart.rxAvailable) hf :), fun _ => ⟨(congrArg (·.uart.rxByte) hf :), (congrArg (·.uart.rxCount) hf :)⟩, nofun⟩
    · have hf := h.uartRx_frame
      exact ⟨(congrArg State.i2c hf :), (congrArg State.ieng hf :), (congrArg State.cpu hf :), (congrArg State.tg hf :),
        (congrArg State.tickPending hf :), (congrArg State.mem hf :), (congrArg (·.uart.framingError) hf :),
        (congrArg (·.uart.rxAvailable) hf :), nofun,
        fun _ => ⟨(congrArg (·.uart.txCount) hf :), (congrArg (·.uart.txCursor) hf :), (congrArg (·.uart.txDone) hf :)⟩⟩
  case i2c =>
    rintro (rfl | rfl)
    · have hf := h.i2cTx_frame
      exact ⟨(congrArg State.uart hf :), (congrArg State.ueng hf :), (congrArg State.cpu hf :), (congrArg State.tg hf :),
        (congrArg State.tickPending hf :), (congrArg (·.i2c.dir) hf :), (congrArg (·.i2c.phase) hf :),
        fun _ => (congrArg State.mem hf :), nofun, nofun⟩
    · have hf := h.i2cRx_frame
      refine ⟨(congrArg State.uart hf :), (congrArg State.ueng hf :), (congrArg State.cpu hf :), (congrArg State.tg hf :),
        (congrArg State.tickPending hf :), (congrArg (·.i2c.dir) hf :), (congrArg (·.i2c.phase) hf :), nofun, fun _ hl => ?_,
        fun _ _ hwf a ha => ?_⟩ <;> obtain hmem | ⟨-, hq4, -, hmem⟩ := h.mem_cases
      · exact hmem
      · exact absurd hq4 hl
      · rw [hmem]
      · rw [hmem, memGet_memSet _ _ _ _ hwf, if_neg (Ne.symm ha)]
  case own =>
    rintro (rfl | ⟨v, rfl⟩)
    · have hf := h.tick_frame
      exact ⟨(congrArg State.uart hf :), (congrArg State.ueng hf :), (congrArg State.i2c hf :), (congrArg State.ieng hf :),
        (congrArg State.mem hf :), fun hne => absurd rfl hne⟩
    · have hf := h.dispatch_frame
      exact ⟨(congrArg State.uart hf :), (congrArg State.ueng hf :), (congrArg State.i2c hf :), (congrArg State.ieng hf :),
        (congrArg State.mem hf :), fun _ => ⟨(congrArg State.tg hf :), (congrArg State.tickPending hf :)⟩⟩

end Sys2Proof.Machine
end

section
/-! PROOFS. A step of the block as the step of one agent (`Taken`), and what every step keeps of the elements that few agents
write: the run's own record (R22, R58, R59), the context and the memory. -/

namespace Sys2Proof.Machine

/-! ### The operation of the interrupt context -/

/-- What the interrupt context runs, by its vector and its label (R330, R340). -/
theorem irqInstr_cases {s : State} {i : Instr} (h : irqInstr s = some i) :
    (∃ j w, s.cpu.ctx = .irq .vt j w ∧ i = .tickIsr)
      ∨ (∃ v j w, s.cpu.ctx = .irq v j w ∧ v ≠ .vt ∧ s.irq.label ∈ [IrqLabel.d0, .d2, .d3] ∧ i = .dispatch (vecNum v))
      ∨ ∃ v j w hd, s.cpu.ctx = .irq v j w ∧ v ≠ .vt ∧ s.irq.label ∉ [IrqLabel.d0, .d2, .d3, .k0, .k1, .k2]
          ∧ (s.cfg.dispatchOrder v)[j]? = some hd ∧ i = handlerInstr hd := by
  unfold irqInstr at h
  split at h
  next => cases h
  next j w hctx => cases h; exact .inl ⟨j, w, hctx, rfl⟩
  next v j w hv hctx =>
    refine .inr ?_
    split at h
    case h_7 hd0 hd2 hd3 hk0 hk1 hk2 =>
      obtain ⟨hd, hj, rfl⟩ := Option.map_eq_some_iff.1 h
      have hl : s.irq.label ∉ [IrqLabel.d0, .d2, .d3, .k0, .k1, .k2] := by
        simpa using ⟨hd0, hd2, hd3, hk0, hk1, hk2⟩
      exact .inr ⟨v, j, w, hd, hctx, hv, hl, hj, rfl⟩
    all_goals cases h
    all_goals exact .inl ⟨v, j, w, hctx, hv, by simp [*], rfl⟩

theorem issuer_of_irqInstr {s : State} {i : Instr} (h : irqInstr s = some i) : issuer i = .irq := by
  obtain ⟨_, _, _, rfl⟩ | ⟨_, _, _, _, _, _, rfl⟩ | ⟨_, _, _, hd, _, _, _, _, rfl⟩ := irqInstr_cases h
  · rfl
  · rfl
  · cases hd <;> rfl

theorem ctx_ne_fg_of_irqInstr {s : State} {i : Instr} (h : irqInstr s = some i) : s.cpu.ctx ≠ .fg := fun hfg => by
  simp [irqInstr_of_fg hfg] at h

/-- A handler's operation names the handler. -/
theorem handlerInstr_injective {h h' : Handler} (heq : handlerInstr h = handlerInstr h') : h = h' := by
  cases h <;> cases h' <;> first | rfl | cases heq

/-- The handler whose operation runs is the one the dispatcher is in. -/
theorem currentHandler_of_irqInstr {s : State} {h : Handler} (hi : irqInstr s = some (handlerInstr h)) :
    currentHandler s = some h := by
  obtain ⟨_, _, -, heq⟩ | ⟨_, _, _, -, -, -, heq⟩ | ⟨v, j, w, hd, hctx, -, -, hj, heq⟩ := irqInstr_cases hi
  · cases h <;> cases heq
  · cases h <;> cases heq
  · rw [handlerInstr_injective heq]
    simp [currentHandler, hctx, hj]

/-! ### The step of one agent -/

/-- The step of the agent a choice names, from a state whose choice is used up (R8). -/
inductive Taken (s : State) : Choice → State → Prop
  | stays {c : Choice} : Taken s c s
  | refuses {r : Refusal} (hready : fgReady s = true) (hr : fgInstr s = .error r) : Taken s .fg (s.refuse r)
  | fg {i : Instr} {t : State} (hready : fgReady s = true) (hi : fgInstr s = .ok i) (h : FgStep s i t) : Taken s .fg t
  | irq {i : Instr} {t : State} (hrun : ¬ Faulted .irq s) (hi : irqInstr s = some i) (h : IrqStep s i t) :
      Taken s .irq t
  | enter {v : Vec} (hacc : acceptable s v = true) : Taken s (.enter v) (irqEnter v s)
  | env {c : Choice} {t : State} (h : EnvStep s c t) : Taken s c t

/-- A step is the step of the agent that moves. -/
theorem taken_of_step {s t u : State} {c : Choice} (hm : Moves c s u) (h : step s = .next t) : Taken u c t := by
  obtain ⟨c', u', hm', -, hcases⟩ := step_cases h
  obtain ⟨rfl, rfl⟩ : c' = c ∧ u' = u := by
    have heq := ((moves_iff c' s u').1 hm').2.symm.trans ((moves_iff c s u).1 hm).2
    simpa using heq
  obtain rfl | ⟨rfl, hready, r, hr, rfl⟩ | ⟨rfl, hready, i, hi, hexec⟩ | ⟨rfl, hrun, i, hi, hexec⟩
    | ⟨v, rfl, hacc, -, rfl⟩ | henv := hcases
  · exact .stays
  · exact .refuses hready hr
  · exact .fg hready hi (fgStep_of_exec ((fgInstr_ok_iff _ _).1 hi).2.2 hexec)
  · exact .irq ((stopped_eq_false_iff _ _).1 hrun) hi (irqStep_of_exec (issuer_of_irqInstr hi) hexec)
  · exact .enter hacc
  · exact .env ((envStep_iff _ _ _).1 henv)

/-- Using a choice up changes nothing but the model's own record of choices (log 2). -/
theorem setSched_of_moves {s u : State} {c : Choice} (hm : Moves c s u) : ∃ x, u = s.setSched x := by
  obtain ⟨-, ⟨cs, -, rfl⟩ | ⟨-, -, rfl⟩⟩ := hm <;> exact ⟨_, rfl⟩

theorem taken_of_step' {s t : State} (h : step s = .next t) : ∃ c x, Taken (s.setSched x) c t := by
  obtain ⟨c, u, hm, -, -⟩ := step_cases h
  obtain ⟨x, rfl⟩ := setSched_of_moves hm
  exact ⟨c, x, taken_of_step hm h⟩

/-- The frame of every step of the environment. -/
theorem EnvStep.frame {s t : State} {c : Choice} (h : EnvStep s c t) : t = { s with
    line := { s.line with rx := t.line.rx }, ueng := t.ueng, ieng := t.ieng,
    i2c := { s.i2c with phase := t.i2c.phase }, tickPending := t.tickPending, ctr := t.ctr, fault := t.fault,
    trace := t.trace } := by
  cases h <;> rfl

section

variable {s t : State} {c : Choice} {i : Instr}

/-! ### What no step takes back (R22, R34, R45, R57 to R59) -/

/-- What a step adds to, or leaves, and never takes back. -/
structure Keeps (s t : State) : Prop where
  cfg : t.cfg = s.cfg
  prog : t.fg.prog = s.fg.prog
  adm : t.adm = s.adm
  fault : s.fault <+: t.fault
  trace : s.trace <+: t.trace
  retries : s.i2c.retries ≤ t.i2c.retries
  k : s.fg.k ≤ t.fg.k
  uartLive : s.ueng.live = true → t.ueng.live = true
  i2cLive : s.ieng.live = true → t.ieng.live = true
  uartTxIe : s.ueng.txIe = .written true → t.ueng.txIe = .written true
  uartRxIe : s.ueng.rxIe = .written true → t.ueng.rxIe = .written true
  i2cTxIe : s.ieng.txIe = .written true → t.ieng.txIe = .written true
  i2cRxIe : s.ieng.rxIe = .written true → t.ieng.rxIe = .written true
  nackIe : s.ieng.nackIe = .written true → t.ieng.nackIe = .written true

theorem FgStep.keeps (h : FgStep s i t) : Keeps s t := by
  cases h <;> constructor <;> first | rfl | exact id | exact fun _ => rfl | exact Nat.le_succ _ | exact List.prefix_append _ _

theorem IrqStep.keeps (h : IrqStep s i t) : Keeps s t := by
  cases h <;> constructor <;> first | rfl | exact id | exact Nat.le_succ _ | exact List.prefix_append _ _

theorem EnvStep.keeps (h : EnvStep s c t) : Keeps s t := by
  cases h <;> constructor <;> first | rfl | exact id | exact List.prefix_append _ _

theorem Taken.keeps (h : Taken s c t) : Keeps s t := by
  cases h with
  | fg _ _ h => exact h.keeps
  | irq _ _ h => exact h.keeps
  | env h => exact h.keeps
  | stays => constructor <;> first | rfl | exact id
  | refuses => constructor <;> first | rfl | exact id
  | enter => constructor <;> first | rfl | exact id

end

/-- Settles O50: each agent's step keeps it, constructor by constructor. -/
theorem nothingIsTakenBack : Obligations.NothingIsTakenBack := by
  intro s t h
  obtain ⟨c, x, htaken⟩ := taken_of_step' h
  obtain ⟨hcfg, hprog, hadm, hfault, htrace, hretries, hk, hul, hil, hutx, hurx, hitx, hirx, hnack⟩ := htaken.keeps
  exact ⟨hcfg, hprog, hadm, hfault, htrace, hretries, hk, hul, hil, hutx, hurx, hitx, hirx, hnack⟩

/-- Settles O15: the interrupt context is not the foreground, so no vector is acceptable and the foreground is not ready. -/
theorem noNesting : Obligations.NoNesting := by
  intro s _ hctx
  have hacc : ∀ v, acceptable s v = false := fun v => by simp [acceptable, hctx]
  refine ⟨hacc, fun t h => ?_, fun t v hm => ?_⟩
  · obtain ⟨c, x, htaken⟩ := taken_of_step' h
    cases htaken with
    | stays => rfl
    | refuses hready _ => exact absurd ((fgReady_iff _).1 hready).1 hctx
    | fg hready _ _ => exact absurd ((fgReady_iff _).1 hready).1 hctx
    | irq _ _ h => exact (congrArg State.fg h.frame :)
    | enter _ => rfl
    | env h => exact (congrArg State.fg h.frame :)
  · obtain ⟨-, -, henter, -⟩ := whoHasNoStep.2 s t (.enter v) hm
    obtain ⟨x, rfl⟩ := setSched_of_moves hm
    exact henter v rfl (.inl (hacc v))

/-! ### The memory (R80, R235) -/

theorem admitted_iff (s : State) (a : Nat) :
    s.admitted a = true ↔ a < 2 ^ s.cfg.addrW ∧ ∃ r ∈ s.adm, r.base ≤ a ∧ a < r.base + r.len := by
  simp [State.admitted]

/-- The one writer of memory is the I2C receive handler's line Q4. -/
theorem Taken.mem_cases {s t : State} {c : Choice} (h : Taken s c t) : t.mem = s.mem
    ∨ (c = .irq ∧ irqInstr s = some .i2cHandleRxIrq ∧ s.irq.label = .q4 ∧ s.admitted s.i2c.cursor = true
      ∧ t.mem = memSet s.mem s.i2c.cursor s.irq.r) := by
  cases h with
  | stays => exact .inl rfl
  | refuses => exact .inl rfl
  | fg _ _ h => exact .inl (congrArg State.mem h.frame :)
  | irq _ hi h =>
    obtain hmem | ⟨rfl, hl, hadm, hmem⟩ := h.mem_cases
    · exact .inl hmem
    · exact .inr ⟨rfl, hi, hl, hadm, hmem⟩
  | enter => exact .inl rfl
  | env h => exact .inl (congrArg State.mem h.frame :)

/-- Settles O54: a step leaves the memory or stores one byte at an admitted address. -/
theorem memoryInvariant : Obligations.MemoryInvariant := by
  refine ⟨admitted_iff, fun s t ⟨hwf, hlt⟩ h => ?_⟩
  obtain ⟨c, x, htaken⟩ := taken_of_step' h
  have hcfg : t.cfg = s.cfg := htaken.keeps.cfg
  obtain hmem | ⟨-, -, -, hadm, hmem⟩ := htaken.mem_cases
  · replace hmem : t.mem = s.mem := hmem
    refine ⟨⟨by rw [hmem]; exact hwf, fun cell hcell => ?_⟩, fun a hne => absurd (by rw [hmem]) hne⟩
    rw [hcfg]
    exact hlt cell (hmem ▸ hcell)
  · replace hmem : t.mem = memSet s.mem s.i2c.cursor s.irq.r := hmem
    replace hadm : s.admitted s.i2c.cursor = true := hadm
    refine ⟨⟨by rw [hmem]; exact memSet_wf _ _ _ hwf, fun cell hcell => ?_⟩, fun a hne => ?_⟩
    · rw [hcfg]
      obtain heq | hold := mem_memSet _ _ _ _ (hmem ▸ hcell)
      · exact heq ▸ admitted_lt s _ hadm
      · exact hlt cell hold
    · rw [hmem, memGet_memSet _ _ _ _ hwf] at hne
      split_ifs at hne with heq
      · exact heq ▸ hadm
      · exact absurd rfl hne

end Sys2Proof.Machine
end

section
/-! PROOFS. The writers of the CPU state, and where the interrupt context stands (R51 to R53, R327, R330, R337 to R339). -/

namespace Sys2Proof.Machine

section

variable {s t : State} {c : Choice} {i : Instr}

/-! ### The CPU state -/

/-- A foreground micro-step writes no CPU state but the sleep bit, and sets that in WAIT only. -/
theorem FgStep.cpu_cases (h : FgStep s i t) : t.cpu = s.cpu
    ∨ ((s.fg.label = .w3 ∨ (s.fg.label = .w1 ∧ s.cfg.waitAtomic = true)) ∧ t.cpu = { s.cpu with asleep := true }) := by
  cases h
  case waitSleeps hl _ => exact .inr ⟨hl, rfl⟩
  all_goals exact .inl rfl

/-- A micro-step of the interrupt context writes CPU state at D2, and at the exits. -/
theorem IrqStep.cpu_cases (h : IrqStep s i t) : t.cpu = s.cpu
    ∨ (∃ v j w, s.irq.label = .d2 ∧ s.cpu.ctx = .irq v j w
        ∧ t.cpu = { s.cpu with ctx := .irq v (j + 1) (w || s.irq.wh) })
    ∨ (∃ b w, s.irq.label ∈ [IrqLabel.d3, .k2] ∧ s.cpu.saved = .written b
        ∧ t.cpu = { s.cpu with gie := true, asleep := b && !w, ctx := .fg }) := by
  cases h
  case dispatchAdvances v j w hctx _ hl => exact .inr (.inl ⟨v, j, w, hl, hctx, rfl⟩)
  case exits b w hsaved hi =>
    refine .inr (.inr ⟨b, w, ?_, hsaved, rfl⟩)
    obtain ⟨-, hl⟩ | ⟨-, -, hl⟩ := hi <;> simp [hl]
  all_goals exact .inl rfl

/-- Every write of the CPU state. -/
theorem Taken.cpu_cases (h : Taken s c t) : t.cpu = s.cpu
    ∨ (c = .fg ∧ s.cpu.ctx = .fg ∧ (s.fg.label = .w3 ∨ (s.fg.label = .w1 ∧ s.cfg.waitAtomic = true))
        ∧ t.cpu = { s.cpu with asleep := true })
    ∨ (∃ v j w, c = .irq ∧ s.irq.label = .d2 ∧ s.cpu.ctx = .irq v j w
        ∧ t.cpu = { s.cpu with ctx := .irq v (j + 1) (w || s.irq.wh) })
    ∨ (∃ b w, c = .irq ∧ s.cpu.ctx ≠ .fg ∧ s.irq.label ∈ [IrqLabel.d3, .k2] ∧ s.cpu.saved = .written b
        ∧ t.cpu = { s.cpu with gie := true, asleep := b && !w, ctx := .fg })
    ∨ (∃ v, c = .enter v ∧ acceptable s v = true
        ∧ t.cpu = { asleep := false, gie := false, ctx := .irq v 0 false, saved := .written s.cpu.asleep }) := by
  cases h with
  | stays => exact .inl rfl
  | refuses => exact .inl rfl
  | fg hready _ h =>
    obtain heq | ⟨hl, heq⟩ := h.cpu_cases
    · exact .inl heq
    · exact .inr (.inl ⟨rfl, ((fgReady_iff s).1 hready).1, hl, heq⟩)
  | irq _ hi h =>
    obtain heq | ⟨v, j, w, hl, hctx, heq⟩ | ⟨b, w, hl, hsaved, heq⟩ := h.cpu_cases
    · exact .inl heq
    · exact .inr (.inr (.inl ⟨v, j, w, rfl, hl, hctx, heq⟩))
    · exact .inr (.inr (.inr (.inl ⟨b, w, rfl, ctx_ne_fg_of_irqInstr hi, hl, hsaved, heq⟩)))
  | enter hacc => exact .inr (.inr (.inr (.inr ⟨_, rfl, hacc, rfl⟩)))
  | env h => exact .inl (congrArg State.cpu h.frame :)

end

/-- Settles O46: the four writers of the CPU state, each against what the clause says of it. -/
theorem sleepMaskAndContextWriters : Obligations.SleepMaskAndContextWriters := by
  intro s t c u hinv hm hstep
  obtain ⟨x, rfl⟩ := setSched_of_moves hm
  obtain hcpu | ⟨rfl, hctx, hl, hcpu⟩ | ⟨v, j, w, rfl, hl, hctx, hcpu⟩ | ⟨b, w, rfl, hctx, hl, hsaved, hcpu⟩
    | ⟨v, rfl, hacc, hcpu⟩ := (taken_of_step hm hstep).cpu_cases
  · replace hcpu : t.cpu = s.cpu := hcpu
    simp +contextual [hcpu]
  · replace hcpu : t.cpu = { s.cpu with asleep := true } := hcpu
    simp only [State.setSched_cpu, State.setSched_fg, State.setSched_cfg] at hctx hl
    simp [hcpu, hctx, hl]
  · replace hcpu : t.cpu = { s.cpu with ctx := .irq v (j + 1) (w || s.irq.wh) } := hcpu
    simp only [State.setSched_cpu, State.setSched_irq] at hctx hl
    refine ⟨by simp +contextual [hcpu], by simp +contextual [hcpu], by simp [hcpu], by simp [hcpu], by simp [hctx],
      fun _ => .inr (.inr ⟨v, j, w, rfl, hl, hctx, by rw [hcpu]⟩), by simp [hcpu]⟩
  · replace hcpu : t.cpu = { s.cpu with gie := true, asleep := b && !w, ctx := .fg } := hcpu
    simp only [State.setSched_cpu, State.setSched_irq] at hctx hl hsaved
    obtain ⟨-, hawake, -⟩ := hinv.masked hctx
    simp only [hcpu, hawake, hsaved, hl]
    simp +contextual
  · replace hcpu : t.cpu = { asleep := false, gie := false, ctx := .irq v 0 false, saved := .written s.cpu.asleep } := hcpu
    replace hacc : acceptable s v = true := hacc
    simp +contextual [hcpu, hacc]

/-! ### Where the interrupt context stands -/

section

variable {s t : State} {c : Params} {v : Vec} {j : Nat} {w : Bool} {l : IrqLabel}

theorem standing_vt : Standing c .vt j l ↔ l ∈ [IrqLabel.k0, .k1, .k2] := Iff.rfl

theorem standing_iff (hv : v ≠ .vt) : Standing c v j l ↔ vecOf c (vecNum v) = some v ∧
    ((l ∈ [IrqLabel.d0, .d3] ∧ j ≤ (c.dispatchOrder v).length)
      ∨ ∃ h, (c.dispatchOrder v)[j]? = some h ∧ (l = .d2 ∨ l ∈ handlerLines h)) := by
  cases v
  case vt => exact absurd rfl hv
  all_goals exact Iff.rfl

theorem handlerEntry_mem (h : Handler) : handlerEntry h ∈ handlerLines h := by
  cases h <;> decide

/-- A handler's micro-step goes to a line of the handler, or returns to D2; or it stops, or holds, at its line. -/
theorem IrqStep.handler_label {h : Handler} (hstep : IrqStep s (handlerInstr h) t) :
    t.irq.label = s.irq.label ∨ t.irq.label = .d2 ∨ t.irq.label ∈ handlerLines h := by
  cases h <;> cases hstep
  all_goals first | exact .inl rfl | exact .inr (.inl rfl) | exact .inr (.inr (by simp [handlerLines]))

theorem IrqStep.handler_cpu {h : Handler} (hstep : IrqStep s (handlerInstr h) t) : t.cpu = s.cpu := by
  cases h
  · exact (congrArg State.cpu hstep.uartTx_frame :)
  · exact (congrArg State.cpu hstep.uartRx_frame :)
  · exact (congrArg State.cpu hstep.i2cTx_frame :)
  · exact (congrArg State.cpu hstep.i2cRx_frame :)

theorem IrqStep.tick_label (hstep : IrqStep s .tickIsr t) :
    t.irq.label = s.irq.label ∨ t.irq.label ∈ [IrqLabel.k1, .k2] := by
  cases hstep
  all_goals first | exact .inl rfl | exact .inr (by simp)

/-- A line of DISPATCH stays or leaves for the foreground, or goes to the called handler, to the exit, or to the next
index. -/
theorem IrqStep.dispatch_label {num : Byte} (hstep : IrqStep s (.dispatch num) t) :
    (t.irq = s.irq ∧ (t.cpu = s.cpu ∨ t.cpu.ctx = .fg))
      ∨ (s.irq.label = .d0 ∧ t.cpu = s.cpu ∧ ∃ v j w h, s.cpu.ctx = .irq v j w
          ∧ (s.cfg.dispatchOrder v)[j]? = some h ∧ t.irq.label = handlerEntry h)
      ∨ (s.irq.label = .d0 ∧ t.cpu = s.cpu ∧ t.irq.label = .d3)
      ∨ (s.irq.label = .d2 ∧ (∃ v j w w', s.cpu.ctx = .irq v j w ∧ t.cpu.ctx = .irq v (j + 1) w')
          ∧ t.irq.label ∈ [IrqLabel.d0, .d3]) := by
  cases hstep
  case dispatchCalls v j w h hctx hl hj _ => exact .inr (.inl ⟨hl, rfl, v, j, w, h, hctx, hj, rfl⟩)
  case dispatchLeaves hl _ => exact .inr (.inr (.inl ⟨hl, rfl, rfl⟩))
  case dispatchAdvances v j w hctx hl _ =>
    refine .inr (.inr (.inr ⟨hl, ⟨v, j, w, _, hctx, rfl⟩, ?_⟩))
    simp only [State.irqGoto_irq]
    split_ifs <;> simp
  case exits => exact .inl ⟨rfl, .inr rfl⟩
  all_goals exact .inl ⟨rfl, .inl rfl⟩

/-- The vector of an accepted entry is one the map has, and its body starts at its first line. -/
theorem standing_enter (hacc : acceptable s v = true) : Standing s.cfg v 0 (if v = .vt then .k0 else .d0) := by
  obtain ⟨-, -, hreq⟩ := (acceptable_iff s v).1 hacc
  cases v <;> simp [Standing, req, vecOf, vecNum] at hreq ⊢ <;> simp [hreq]

end

/-- A micro-step of the interrupt context that does not exit stands at a line of its vector's body. -/
theorem IrqStep.standing {s t : State} {i : Instr} (hinv : ContextInv s) (hi : irqInstr s = some i) (h : IrqStep s i t)
    {v : Vec} {j : Nat} {w : Bool} (hctx : t.cpu.ctx = .irq v j w) : Standing s.cfg v j t.irq.label := by
  obtain ⟨j', w', hs, rfl⟩ | ⟨v', j', w', hs, hv, hl, rfl⟩ | ⟨v', j', w', hd, hs, hv, hl, hj, rfl⟩ := irqInstr_cases hi
  · have hstand := hinv.standing _ _ _ hs
    have hcpu : t.cpu.ctx = s.cpu.ctx := by
      cases h <;> first | rfl | cases hctx
    rw [hcpu, hs] at hctx
    cases hctx
    obtain hlab | hlab := h.tick_label
    · rw [hlab]; exact hstand
    · exact standing_vt.2 (List.mem_cons_of_mem _ hlab)
  · have hstand := hinv.standing _ _ _ hs
    obtain ⟨hmap, hat⟩ := (standing_iff hv).1 hstand
    obtain ⟨hirq, hcpu | hfg⟩ | ⟨hd0, hcpu, v₁, j₁, w₁, hd, hs', hj, hlab⟩ | ⟨hd0, hcpu, hlab⟩
      | ⟨hd2, ⟨v₁, j₁, w₁, w₂, hs', hcpu⟩, hlab⟩ := h.dispatch_label
    · rw [hcpu, hs] at hctx
      cases hctx
      rw [hirq]; exact hstand
    · simp [hfg] at hctx
    · rw [hcpu, hs] at hctx
      cases hctx
      rw [hs] at hs'
      cases hs'
      exact (standing_iff hv).2 ⟨hmap, .inr ⟨hd, hj, .inr (hlab ▸ handlerEntry_mem hd)⟩⟩
    · rw [hcpu, hs] at hctx
      cases hctx
      refine (standing_iff hv).2 ⟨hmap, .inl ⟨by simp [hlab], ?_⟩⟩
      obtain ⟨-, hle⟩ | ⟨hd, -, hat⟩ := hat
      · exact hle
      · rw [hd0] at hat
        obtain hat | hat := hat
        · cases hat
        · exact absurd hat (by cases hd <;> decide)
    · rw [hcpu] at hctx
      rw [hs] at hs'
      cases hs'
      cases hctx
      refine (standing_iff hv).2 ⟨hmap, .inl ⟨hlab, ?_⟩⟩
      obtain ⟨hat, -⟩ | ⟨hd, hj, -⟩ := hat
      · simp [hd2] at hat
      · exact (List.getElem?_eq_some_iff.1 hj).1
  · obtain ⟨hmap, hat⟩ := (standing_iff hv).1 (hinv.standing _ _ _ hs)
    have hcpu : t.cpu = s.cpu := h.handler_cpu
    rw [hcpu, hs] at hctx
    cases hctx
    refine (standing_iff hv).2 ⟨hmap, .inr ⟨hd, hj, ?_⟩⟩
    obtain hlab | hlab := h.handler_label
    · rw [hlab]
      obtain ⟨hat, -⟩ | ⟨hd', hj', hat⟩ := hat
      · simp at hat hl
        tauto
      · rw [hj] at hj'
        cases hj'
        exact hat
    · exact hlab

theorem ContextInv.setSched {s : State} {x : Sched} (h : ContextInv s) : ContextInv (s.setSched x) := ⟨h.masked, h.standing⟩

/-- Settles O55: the CPU state by its writers; the place of the context by the micro-step that moves it. -/
theorem contextInvariant : Obligations.ContextInvariant := by
  intro s t hinv hstep
  obtain ⟨c, x, htaken⟩ := taken_of_step' hstep
  replace hinv : ContextInv (s.setSched x) := hinv.setSched
  generalize s.setSched x = s at hinv htaken
  have hcfg := htaken.keeps.cfg
  refine ⟨fun hne => ?masked, fun v j w hctx => ?standing⟩
  case masked =>
    obtain hcpu | ⟨-, hctx, -, hcpu⟩ | ⟨v, j, w, -, -, hctx, hcpu⟩ | ⟨b, w, -, -, -, -, hcpu⟩ | ⟨v, -, -, hcpu⟩ :=
      htaken.cpu_cases
    · rw [hcpu] at hne ⊢
      exact hinv.masked hne
    · simp [hcpu, hctx] at hne
    · rw [hcpu]
      exact hinv.masked (by simp [hctx])
    · simp [hcpu] at hne
    · simp [hcpu, Reg.Written]
  case standing =>
    rw [hcfg]
    cases htaken with
    | stays => exact hinv.standing v j w hctx
    | refuses => exact hinv.standing v j w hctx
    | fg hready _ h =>
      have hirq : t.irq = s.irq := (congrArg State.irq h.frame :)
      have hcpu : t.cpu.ctx = s.cpu.ctx := (congrArg (·.cpu.ctx) h.frame :)
      rw [hirq]
      exact hinv.standing v j w (hcpu ▸ hctx)
    | irq _ hi h => exact h.standing hinv hi hctx
    | enter hacc =>
      cases hctx
      exact standing_enter hacc
    | env h =>
      have hirq : t.irq = s.irq := (congrArg State.irq h.frame :)
      have hcpu : t.cpu = s.cpu := (congrArg State.cpu h.frame :)
      rw [hirq]
      exact hinv.standing v j w (hcpu ▸ hctx)

end Sys2Proof.Machine
end

section
/-! PROOFS. The only writers of the session, the status flags, the lines, the time sources and the clock claims (R26 to R29,
R54 to R57, R138, R158, R195, R226, R235, R301). -/

namespace Sys2Proof.Machine

section

variable {s t : State} {c : Choice} {i : Instr}

/-! ### The session of each driver -/

/-- No foreground operation completes a session. -/
theorem FgStep.done_le (h : FgStep s i t) :
    (t.uart.txDone = true → s.uart.txDone = true) ∧ (t.i2c.done = true → s.i2c.done = true) := by
  cases h <;> first | exact ⟨id, id⟩ | exact ⟨nofun, id⟩ | exact ⟨id, nofun⟩

/-- WAIT writes no register of a driver. -/
theorem FgStep.drivers_of_wait (h : FgStep s i t) (hl : s.fg.label ∈ [Label.w0, .w1, .w2, .w3, .w4, .w5]) :
    t.uart = s.uart ∧ t.i2c = s.i2c := by
  cases h <;> first | exact ⟨rfl, rfl⟩ | simp_all

theorem IrqStep.counts_le (h : IrqStep s i t) : t.uart.txCount ≤ s.uart.txCount ∧ t.i2c.count ≤ s.i2c.count := by
  cases h
  case uartTxCounts => exact ⟨by simp only [State.irqGoto_uart, State.setUart_uart]; split_ifs <;> omega, le_rfl⟩
  case i2cTxCounts => exact ⟨le_rfl, Nat.sub_le _ _⟩
  case i2cRxCounts => exact ⟨le_rfl, Nat.sub_le _ _⟩
  all_goals exact ⟨le_rfl, le_rfl⟩

theorem IrqStep.txDone_cases (h : IrqStep s i t) : t.uart.txDone = s.uart.txDone
    ∨ (i = .uartHandleTxIrq ∧ s.irq.label = .t5 ∧ t.uart.txCount = s.uart.txCount) := by
  cases h
  case uartTxDone hl => exact .inr ⟨rfl, hl, rfl⟩
  all_goals exact .inl rfl

theorem IrqStep.i2cDone_cases (h : IrqStep s i t) : t.i2c.done = s.i2c.done
    ∨ (i = .i2cHandleTxIrq ∧ s.irq.label = .t6 ∧ t.i2c.count = s.i2c.count)
    ∨ (i = .i2cHandleRxIrq ∧ s.irq.label = .q8 ∧ t.i2c.count = 0) := by
  cases h
  case i2cTxDone hl => exact .inr (.inl ⟨rfl, hl, rfl⟩)
  case i2cRxDone hl hcount => exact .inr (.inr ⟨rfl, hl, hcount⟩)
  all_goals exact .inl rfl

theorem Taken.counts_le (h : Taken s c t) (hc : c ≠ .fg) :
    t.uart.txCount ≤ s.uart.txCount ∧ t.i2c.count ≤ s.i2c.count := by
  cases h with
  | refuses => exact absurd rfl hc
  | fg => exact absurd rfl hc
  | stays => exact ⟨le_rfl, le_rfl⟩
  | irq _ _ h => exact h.counts_le
  | enter => exact ⟨le_rfl, le_rfl⟩
  | env h => exact ⟨(congrArg (·.uart.txCount) h.frame :).le, (congrArg (·.i2c.count) h.frame :).le⟩

/-- A completion flag rises in a handler only. -/
theorem Taken.done_cases (h : Taken s c t) :
    ((t.uart.txDone = true → s.uart.txDone = true) ∧ (t.i2c.done = true → s.i2c.done = true))
      ∨ (∃ i, c = .irq ∧ irqInstr s = some i ∧ IrqStep s i t) := by
  cases h with
  | stays => exact .inl ⟨id, id⟩
  | refuses => exact .inl ⟨id, id⟩
  | fg _ _ h => exact .inl h.done_le
  | irq _ hi h => exact .inr ⟨_, rfl, hi, h⟩
  | enter => exact .inl ⟨id, id⟩
  | env h => exact .inl ⟨fun hd => (congrArg (·.uart.txDone) h.frame :) ▸ hd, fun hd => (congrArg (·.i2c.done) h.frame :) ▸ hd⟩

theorem Taken.drivers_of_wait (h : Taken s c t) (hc : c = .fg)
    (hl : s.fg.label ∈ [Label.w0, .w1, .w2, .w3, .w4, .w5]) : t.uart = s.uart ∧ t.i2c = s.i2c := by
  cases h with
  | fg _ _ h => exact h.drivers_of_wait hl
  | stays => exact ⟨rfl, rfl⟩
  | refuses => exact ⟨rfl, rfl⟩
  | irq => cases hc
  | enter => cases hc
  | env h => subst hc; cases h

end

/-- Settles O47: each register by its writers; what is known of the count there is the session invariant's. -/
theorem sessionAndMemoryWriters : Obligations.SessionAndMemoryWriters := by
  intro s t c u hinv hwf hm hstep
  have htaken := taken_of_step hm hstep
  obtain ⟨x, rfl⟩ := setSched_of_moves hm
  refine ⟨?mem, fun hc => htaken.counts_le hc, fun hdone hnot => ?txDone, fun hdone hnot => ?i2cDone,
    fun hc hl => htaken.drivers_of_wait hc hl⟩
  case mem =>
    obtain hmem | ⟨hc, hi, hl, hadm, hmem⟩ := htaken.mem_cases
    · exact .inl hmem
    · replace hmem : t.mem = memSet s.mem s.i2c.cursor s.irq.r := hmem
      refine .inr ⟨hc, hi, hl, hadm, fun hin => hinv.i2cStores hin (by simp [show s.irq.label = .q4 from hl]), fun a => ?_⟩
      rw [hmem, memGet_memSet _ _ _ _ hwf]
      simp only [eq_comm]
  case txDone =>
    obtain ⟨hle, -⟩ | ⟨i, rfl, hi, h⟩ := htaken.done_cases
    · exact absurd (hle hdone) (by simp [hnot])
    · obtain heq | ⟨rfl, hl, heq⟩ := h.txDone_cases
      · exact absurd (heq.symm.trans hdone) (by simp [hnot])
      · exact ⟨rfl, hi, hl, fun hin => heq.trans (hinv.uartDone hin (by simp [show s.irq.label = .t5 from hl]))⟩
  case i2cDone =>
    obtain ⟨-, hle⟩ | ⟨i, rfl, hi, h⟩ := htaken.done_cases
    · exact absurd (hle hdone) (by simp [hnot])
    · obtain heq | ⟨rfl, hl, heq⟩ | ⟨rfl, hl, heq⟩ := h.i2cDone_cases
      · exact absurd (heq.symm.trans hdone) (by simp [hnot])
      · exact ⟨rfl, .inl ⟨hi, hl, fun hin => heq.trans (hinv.i2cDone hin (by simp [show s.irq.label = .t6 from hl]))⟩⟩
      · exact ⟨rfl, .inr ⟨hi, hl, heq⟩⟩

section

variable {s t : State} {c : Choice} {i : Instr}

/-! ### The status flags, the lines and the guard -/

theorem FgStep.swuFraming_cases (h : FgStep s i t) : t.swu.framingError = s.swu.framingError
    ∨ (i = .swuGetc ∧ s.fg.label = .l9 ∧ t.swu.framingError = (s.swu.framingError || !s.line.rx))
    ∨ (i = .swuStatusClear ∧ t.swu.framingError = false) := by
  cases h
  case swuGetcStopBit hl => exact .inr (.inl ⟨rfl, hl, rfl⟩)
  case swuStatusClear => exact .inr (.inr ⟨rfl, rfl⟩)
  all_goals exact .inl rfl

theorem FgStep.swuAvailable_cases (h : FgStep s i t) : t.swu.rxAvailable = s.swu.rxAvailable
    ∨ (i = .swuGetc ∧ s.fg.label = .l10 ∧ t.swu.rxAvailable = true)
    ∨ (i = .swuStatusClear ∧ t.swu.rxAvailable = false) := by
  cases h
  case swuGetcEnds hl _ => exact .inr (.inl ⟨rfl, hl, rfl⟩)
  case swuStatusClear => exact .inr (.inr ⟨rfl, rfl⟩)
  all_goals exact .inl rfl

theorem FgStep.uartFraming_le (h : FgStep s i t) : t.uart.framingError = true → s.uart.framingError = true := by
  cases h
  case uartStatusClear => exact nofun
  all_goals exact id

theorem FgStep.uartAvailable_cases (h : FgStep s i t) : t.uart.rxAvailable = s.uart.rxAvailable
    ∨ (∃ tmo, i = .uartGetc tmo ∧ s.fg.label ∈ [Label.l1, .l3]) ∨ i = .uartStatusClear := by
  cases h
  case getcBegins hl => exact .inr (.inl ⟨_, rfl, by simp [hl]⟩)
  case getcReceived hl => exact .inr (.inl ⟨_, rfl, by simp [hl]⟩)
  case uartStatusClear => exact .inr (.inr rfl)
  all_goals exact .inl rfl

theorem FgStep.txLine_cases (h : FgStep s i t) : t.line.tx = s.line.tx
    ∨ ∃ b, i = .swuPutc b ∧ s.fg.label ∈ [Label.l1, .l4, .l8] := by
  cases h
  case swuPutcStartBit hl => exact .inr ⟨_, rfl, by simp [hl]⟩
  case swuPutcBit hl _ => exact .inr ⟨_, rfl, by simp [hl]⟩
  case swuPutcStopBit hl => exact .inr ⟨_, rfl, by simp [hl]⟩
  all_goals exact .inl rfl

/-- The foreground writes the guard at TG_ARM and at TG_DISARM. -/
theorem FgStep.tg_cases (h : FgStep s i t) : t.tg = s.tg
    ∨ (s.fg.label = .w0 ∧ ∃ cond n exit, waitOf s i = some (cond, some n, exit)
        ∧ t.tg = { armed := true, count := n, expired := n == 0 })
    ∨ (s.fg.label = .w5 ∧ t.tg = { s.tg with armed := false }) := by
  cases h
  case waitArms hl hw => exact .inr (.inl ⟨hl, _, _, _, hw, rfl⟩)
  case waitDisarms hl _ => exact .inr (.inr ⟨hl, rfl⟩)
  all_goals exact .inl rfl

theorem IrqStep.tg_cases (h : IrqStep s i t) : t.tg = s.tg
    ∨ (i = .tickIsr ∧ s.irq.label = .k1 ∧ t.tg = tgTick s.tg) := by
  cases h
  case tickTicks hl => exact .inr ⟨rfl, hl, rfl⟩
  all_goals exact .inl rfl

theorem IrqStep.tickPending_cases (h : IrqStep s i t) : t.tickPending = s.tickPending
    ∨ (i = .tickIsr ∧ s.irq.label = .k0) := by
  cases h
  case tickClears hl => exact .inr ⟨rfl, hl⟩
  all_goals exact .inl rfl

/-- What only the foreground writes of the flags and the lines. -/
theorem Taken.flags_of_ne_fg (h : Taken s c t) (hc : c ≠ .fg) :
    t.swu = s.swu ∧ t.uart.framingError = s.uart.framingError ∧ t.uart.rxAvailable = s.uart.rxAvailable
      ∧ t.line.tx = s.line.tx := by
  cases h with
  | refuses => exact absurd rfl hc
  | fg => exact absurd rfl hc
  | stays => exact ⟨rfl, rfl, rfl, rfl⟩
  | irq _ _ h => exact ⟨(congrArg State.swu h.frame :), (congrArg (·.uart.framingError) h.frame :),
      (congrArg (·.uart.rxAvailable) h.frame :), (congrArg (·.line.tx) h.frame :)⟩
  | enter => exact ⟨rfl, rfl, rfl, rfl⟩
  | env h => exact ⟨(congrArg State.swu h.frame :), (congrArg (·.uart.framingError) h.frame :),
      (congrArg (·.uart.rxAvailable) h.frame :), (congrArg (·.line.tx) h.frame :)⟩

/-- A step of the foreground is a micro-step of its operation, or leaves all but the refused mark. -/
theorem Taken.fg_cases (h : Taken s .fg t) :
    (∃ r, t = { s with refused := r }) ∨ ∃ i, fgInstr s = .ok i ∧ FgStep s i t := by
  cases h with
  | stays => exact .inl ⟨_, rfl⟩
  | refuses => exact .inl ⟨_, rfl⟩
  | fg _ hi h => exact .inr ⟨_, hi, h⟩
  | env h => cases h

theorem Taken.swuFraming_cases (h : Taken s c t) : t.swu.framingError = s.swu.framingError
    ∨ (c = .fg ∧ ((fgInstr s = .ok .swuGetc ∧ s.fg.label = .l9
          ∧ t.swu.framingError = (s.swu.framingError || !s.line.rx))
        ∨ (fgInstr s = .ok .swuStatusClear ∧ t.swu.framingError = false))) := by
  by_cases hc : c = .fg
  · subst hc
    obtain ⟨r, rfl⟩ | ⟨i, hi, h⟩ := h.fg_cases
    · exact .inl rfl
    · obtain heq | ⟨rfl, hl, heq⟩ | ⟨rfl, heq⟩ := h.swuFraming_cases
      · exact .inl heq
      · exact .inr ⟨rfl, .inl ⟨hi, hl, heq⟩⟩
      · exact .inr ⟨rfl, .inr ⟨hi, heq⟩⟩
  · exact .inl (congrArg Swu.framingError (h.flags_of_ne_fg hc).1)

theorem Taken.swuAvailable_cases (h : Taken s c t) : t.swu.rxAvailable = s.swu.rxAvailable
    ∨ (c = .fg ∧ ((fgInstr s = .ok .swuGetc ∧ s.fg.label = .l10 ∧ t.swu.rxAvailable = true)
        ∨ (fgInstr s = .ok .swuStatusClear ∧ t.swu.rxAvailable = false))) := by
  by_cases hc : c = .fg
  · subst hc
    obtain ⟨r, rfl⟩ | ⟨i, hi, h⟩ := h.fg_cases
    · exact .inl rfl
    · obtain heq | ⟨rfl, hl, heq⟩ | ⟨rfl, heq⟩ := h.swuAvailable_cases
      · exact .inl heq
      · exact .inr ⟨rfl, .inl ⟨hi, hl, heq⟩⟩
      · exact .inr ⟨rfl, .inr ⟨hi, heq⟩⟩
  · exact .inl (congrArg Swu.rxAvailable (h.flags_of_ne_fg hc).1)

theorem Taken.uartFraming_le (h : Taken s c t) : t.uart.framingError = true → s.uart.framingError = true := by
  by_cases hc : c = .fg
  · subst hc
    obtain ⟨r, rfl⟩ | ⟨i, -, h⟩ := h.fg_cases
    · exact id
    · exact h.uartFraming_le
  · obtain ⟨-, heq, -⟩ := h.flags_of_ne_fg hc
    rw [heq]
    exact id

theorem Taken.uartAvailable_cases (h : Taken s c t) : t.uart.rxAvailable = s.uart.rxAvailable
    ∨ (c = .fg ∧ ((∃ tmo, fgInstr s = .ok (.uartGetc tmo) ∧ s.fg.label ∈ [Label.l1, .l3])
        ∨ fgInstr s = .ok .uartStatusClear)) := by
  by_cases hc : c = .fg
  · subst hc
    obtain ⟨r, rfl⟩ | ⟨i, hi, h⟩ := h.fg_cases
    · exact .inl rfl
    · obtain heq | ⟨tmo, rfl, hl⟩ | rfl := h.uartAvailable_cases
      · exact .inl heq
      · exact .inr ⟨rfl, .inl ⟨tmo, hi, hl⟩⟩
      · exact .inr ⟨rfl, .inr hi⟩
  · exact .inl (h.flags_of_ne_fg hc).2.2.1

theorem Taken.txLine_cases (h : Taken s c t) : t.line.tx = s.line.tx
    ∨ (c = .fg ∧ ∃ b, fgInstr s = .ok (.swuPutc b) ∧ s.fg.label ∈ [Label.l1, .l4, .l8]) := by
  by_cases hc : c = .fg
  · subst hc
    obtain ⟨r, rfl⟩ | ⟨i, hi, h⟩ := h.fg_cases
    · exact .inl rfl
    · obtain heq | ⟨b, rfl, hl⟩ := h.txLine_cases
      · exact .inl heq
      · exact .inr ⟨rfl, b, hi, hl⟩
  · exact .inl (h.flags_of_ne_fg hc).2.2.2

/-! ### The time sources and the receive line -/

/-- The environment's own elements: the receive line and the counter, each with one writer. -/
theorem EnvStep.line_ctr_cases (h : EnvStep s c t) : (t.line.rx = s.line.rx ∨ c = .line t.line.rx)
    ∧ (t.ctr = s.ctr ∨ (c = .ctr ∧ t.ctr = (s.ctr + 1) % 2 ^ s.cfg.ctrW)) := by
  cases h
  case ctr => exact ⟨.inl rfl, .inr ⟨rfl, rfl⟩⟩
  case line => exact ⟨.inr rfl, .inl rfl⟩
  all_goals exact ⟨.inl rfl, .inl rfl⟩

theorem EnvStep.tickPending_cases (h : EnvStep s c t) : t.tickPending = s.tickPending
    ∨ (c = .tick ∧ t.tickPending = true) := by
  cases h
  case tick => exact .inr ⟨rfl, rfl⟩
  all_goals exact .inl rfl

theorem Taken.line_ctr_cases (h : Taken s c t) : (t.line.rx = s.line.rx ∨ c = .line t.line.rx)
    ∧ (t.ctr = s.ctr ∨ (c = .ctr ∧ t.ctr = (s.ctr + 1) % 2 ^ s.cfg.ctrW)) := by
  cases h with
  | stays => exact ⟨.inl rfl, .inl rfl⟩
  | refuses => exact ⟨.inl rfl, .inl rfl⟩
  | fg _ _ h => exact ⟨.inl (congrArg (·.line.rx) h.frame :), .inl (congrArg State.ctr h.frame :)⟩
  | irq _ _ h => exact ⟨.inl (congrArg (·.line.rx) h.frame :), .inl (congrArg State.ctr h.frame :)⟩
  | enter => exact ⟨.inl rfl, .inl rfl⟩
  | env h => exact h.line_ctr_cases

theorem Taken.tickPending_cases (h : Taken s c t) : t.tickPending = s.tickPending
    ∨ (c = .tick ∧ t.tickPending = true) ∨ (c = .irq ∧ irqInstr s = some .tickIsr ∧ s.irq.label = .k0) := by
  cases h with
  | stays => exact .inl rfl
  | refuses => exact .inl rfl
  | fg _ _ h => exact .inl (congrArg State.tickPending h.frame :)
  | irq _ hi h =>
    obtain heq | ⟨rfl, hl⟩ := h.tickPending_cases
    · exact .inl heq
    · exact .inr (.inr ⟨rfl, hi, hl⟩)
  | enter => exact .inl rfl
  | env h => exact h.tickPending_cases.imp_right .inl

theorem Taken.tg_cases (h : Taken s c t) : t.tg = s.tg ∨ (c = .fg ∧ s.fg.label ∈ [Label.w0, .w5])
    ∨ (c = .irq ∧ irqInstr s = some .tickIsr ∧ s.irq.label = .k1) := by
  cases h with
  | stays => exact .inl rfl
  | refuses => exact .inl rfl
  | fg _ _ h =>
    obtain heq | ⟨hl, -⟩ | ⟨hl, -⟩ := h.tg_cases
    · exact .inl heq
    · exact .inr (.inl ⟨rfl, by simp [hl]⟩)
    · exact .inr (.inl ⟨rfl, by simp [hl]⟩)
  | irq _ hi h =>
    obtain heq | ⟨rfl, hl, -⟩ := h.tg_cases
    · exact .inl heq
    · exact .inr (.inr ⟨rfl, hi, hl⟩)
  | enter => exact .inl rfl
  | env h => exact .inl (congrArg State.tg h.frame :)

end

/-- Settles O48: each element by its writers; a framing error that the stop sample changes has risen, so the line was low. -/
theorem flagAndLineWriters : Obligations.FlagAndLineWriters := by
  intro s t c u hm hstep
  have htaken := taken_of_step hm hstep
  obtain ⟨x, rfl⟩ := setSched_of_moves hm
  obtain ⟨hline, hctr⟩ := htaken.line_ctr_cases
  refine ⟨fun hne => ?framing, fun hne => htaken.swuAvailable_cases.resolve_left hne, htaken.uartFraming_le,
    fun hne => htaken.uartAvailable_cases.resolve_left hne, fun hne => htaken.txLine_cases.resolve_left hne,
    fun hne => hline.resolve_left hne, fun hne => hctr.resolve_left hne,
    fun hne => htaken.tickPending_cases.resolve_left hne, fun hne => htaken.tg_cases.resolve_left hne⟩
  obtain ⟨hc, ⟨hi, hl, heq⟩ | hclear⟩ := htaken.swuFraming_cases.resolve_left hne
  · replace heq : t.swu.framingError = (s.swu.framingError || !s.line.rx) := heq
    refine ⟨hc, .inl ⟨hi, hl, ?_⟩⟩
    cases hrx : s.line.rx <;> simp [heq, hrx] at hne ⊢
  · exact ⟨hc, .inr hclear⟩

end Sys2Proof.Machine
end

section
/-! PROOFS. The foreground's position, and the pairing of the clock claims over an I2C transfer (R22, R226, R381). -/

namespace Sys2Proof.Machine

section

variable {s t : State} {c : Choice} {i : Instr}

/-! ### The position -/

/-- A micro-step stays in its operation, or ends it and stands at the start of the next one (R22). -/
theorem FgStep.position_cases (h : FgStep s i t) :
    t.fg.k = s.fg.k ∨ (t.fg.k = s.fg.k + 1 ∧ t.fg.label = .l0) := by
  cases h <;> first | exact .inl rfl | exact .inr ⟨rfl, rfl⟩

/-- The operation depends on the parameters, the list and the index alone. -/
theorem fgInstr_congr (hcfg : t.cfg = s.cfg) (hprog : t.fg.prog = s.fg.prog) (hk : t.fg.k = s.fg.k) :
    fgInstr t = fgInstr s := by
  simp only [fgInstr, currentDesc, hcfg, hprog, hk]

theorem FgStep.fgInstr_eq (h : FgStep s i t) (hk : t.fg.k = s.fg.k) : fgInstr t = fgInstr s :=
  fgInstr_congr h.keeps.cfg h.keeps.prog hk

/-! ### The claims -/

/-- An operation that neither claims nor releases a clock of its own, and is no I2C transfer, leaves every claim. -/
theorem FgStep.claims_eq (h : FgStep s i t) (hno : i2cOperands i = none)
    (hnot : i ∉ [Instr.uartInit, .uartEnable, .uartDisable, .i2cEnable, .i2cDisable]) : t.claims = s.claims := by
  cases h
  case i2cClaim _ hop => simp [hno] at hop
  case i2cRelease _ _ hop => simp [hno] at hop
  all_goals first
    | rfl
    | exact absurd hnot (by simp)

/-- An I2C transfer claims its clock at X1, releases it at X14, and stands on the same side of its claim after every other
line (R224, R226). -/
theorem FgStep.transfer_cases (h : FgStep s i t) (hi : (i2cOperands i).isSome = true) :
    (t.claims = s.claims ∧ t.fg.k = s.fg.k ∧ (t.fg.label ∈ [Label.l0, .l1] ↔ s.fg.label ∈ [Label.l0, .l1]))
      ∨ (s.fg.label = .l1 ∧ t = (claim s.cfg.clkB s).goto .l2)
      ∨ (s.fg.label = .l14 ∧ (s.cfg.claimKind = .counter → 0 < claimCount s.claims s.cfg.clkB)
        ∧ t = (releaseOne s.cfg.clkB s).done) := by
  have hno := seedLine_of_i2cOperands hi
  obtain ⟨⟨dir, a, p, n, tmo⟩, hop⟩ := Option.isSome_iff_exists.1 hi
  have hwait := waitOf_of_i2cOperands s hop
  cases h
  case i2cClaim hl _ => exact .inr (.inl ⟨hl, rfl⟩)
  case i2cRelease hl hcount _ => exact .inr (.inr ⟨hl, hcount, rfl⟩)
  case waitLeaves hl _ => exact .inl ⟨rfl, rfl, by obtain hl | hl := hl <;> simp [hl]⟩
  case waitSleeps hl _ => exact .inl ⟨rfl, rfl, by obtain hl | ⟨hl, -⟩ := hl <;> simp [hl]⟩
  all_goals first
    | exact .inl ⟨rfl, rfl, Iff.rfl⟩
    | cases hop
    | refine .inl ⟨rfl, rfl, ?_⟩; simp_all

/-! ### The hold of a transfer -/

theorem transferHold_of_ok (hi : fgInstr s = .ok i) (d : ClockId) : transferHold s d =
    if (i2cOperands i).isSome ∧ d = s.cfg.clkB ∧ s.fg.label ∉ [Label.l0, .l1] then 1 else 0 := by
  simp only [transferHold, hi]

theorem transferHold_of_start (hl : s.fg.label ∈ [Label.l0, .l1]) (d : ClockId) : transferHold s d = 0 := by
  unfold transferHold
  split
  · rfl
  · exact if_neg fun h => h.2.2 hl

/-- The hold follows from the foreground's position alone. -/
theorem transferHold_congr (hcfg : t.cfg = s.cfg) (hprog : t.fg.prog = s.fg.prog) (hk : t.fg.k = s.fg.k)
    (hl : t.fg.label ∈ [Label.l0, .l1] ↔ s.fg.label ∈ [Label.l0, .l1]) (d : ClockId) :
    transferHold t d = transferHold s d := by
  simp only [transferHold, fgInstr_congr hcfg hprog hk, hcfg, hl]

/-- An operation that is no I2C transfer holds nothing of one. -/
theorem transferHold_of_not_i2c (hi : fgInstr s = .ok i) (hno : ¬ (i2cOperands i).isSome = true) (d : ClockId) :
    transferHold s d = 0 := by
  rw [transferHold_of_ok hi, if_neg fun h => hno h.1]

theorem FgStep.pairs_claims (h : FgStep s i t) (hi : fgInstr s = .ok i) (hkind : s.cfg.claimKind = .counter)
    (hnot : i ∉ [Instr.uartInit, .uartEnable, .uartDisable, .i2cEnable, .i2cDisable]) (d : ClockId) :
    claimCount t.claims d + transferHold s d = claimCount s.claims d + transferHold t d := by
  by_cases hop : (i2cOperands i).isSome = true
  · obtain ⟨hclaims, hk, hl⟩ | ⟨hl, rfl⟩ | ⟨hl, hcount, rfl⟩ := h.transfer_cases hop
    · rw [hclaims, transferHold_congr h.keeps.cfg h.keeps.prog hk hl]
    · have hi' : fgInstr ((claim s.cfg.clkB s).goto .l2) = .ok i := hi
      have hcfg : (claim s.cfg.clkB s).cfg = s.cfg := rfl
      have hclaim := (claim_cases s.cfg.clkB s).2 d
      rw [hkind] at hclaim
      rw [transferHold_of_start (by simp [hl]), transferHold_of_ok hi', State.goto_claims, hclaim]
      by_cases hd : d = s.cfg.clkB
      · subst hd
        simp [hop, hcfg]
      · simp [hd, hcfg]
    · rw [transferHold_of_ok hi, transferHold_of_start (s := (releaseOne s.cfg.clkB s).done) (by simp)]
      by_cases hd : d = s.cfg.clkB
      · subst hd
        have := hcount hkind
        simp [releaseOne, hkind, hop, hl]
        omega
      · simp [releaseOne, hd]
  · have hno : i2cOperands i = none := by simpa using hop
    have hhold : transferHold t d = 0 := by
      obtain hk | ⟨-, hl⟩ := h.position_cases
      · exact transferHold_of_not_i2c ((h.fgInstr_eq hk).trans hi) hop d
      · exact transferHold_of_start (by simp [hl]) d
    rw [h.claims_eq hno hnot, transferHold_of_not_i2c hi hop, hhold]

end

/-- Settles O49: only the foreground moves the position or, with its own operations aside, the claims. -/
theorem transfersPairTheirClaims : Obligations.TransfersPairTheirClaims := by
  intro s t c u hm hstep hkind hnot d
  have htaken := taken_of_step hm hstep
  obtain ⟨x, rfl⟩ := setSched_of_moves hm
  have hsame {t' : State} (hclaims : t'.claims = s.claims) (hcfg : t'.cfg = s.cfg) (hfg : t'.fg = s.fg) :
      claimCount t'.claims d + transferHold s d = claimCount s.claims d + transferHold t' d := by
    rw [hclaims, transferHold_congr hcfg (by rw [hfg]) (by rw [hfg]) (by rw [hfg])]
  cases htaken with
  | stays => exact hsame rfl rfl rfl
  | refuses => exact hsame rfl rfl rfl
  | fg _ hi h => exact h.pairs_claims hi hkind (hnot rfl _ hi) d
  | irq _ _ h => exact hsame (congrArg State.claims h.frame :) h.keeps.cfg (congrArg State.fg h.frame :)
  | enter => exact hsame rfl rfl rfl
  | env h => exact hsame (congrArg State.claims h.frame :) h.keeps.cfg (congrArg State.fg h.frame :)

end Sys2Proof.Machine
end

section
/-! PROOFS. Every step keeps the two engines' flags consistent (R192, R193, R229, R238, R271 to R294). -/

namespace Sys2Proof.Machine

section

variable {s t : State} {c : Choice} {i : Instr}

/-! ### The UART engine -/

theorem UartEngineInv.congr (h : UartEngineInv s) (he : t.ueng = s.ueng) : UartEngineInv t :=
  ⟨by rw [he]; exact h.live, by rw [he]; exact h.ready, by rw [he]; exact h.holding, by rw [he]; exact h.shifting,
    by rw [he]; exact h.received⟩

/-- A byte handed over fills the holding register and lowers the flag (R272). -/
theorem UartEngineInv.fed (h : UartEngineInv s) (v : Byte) : UartEngineInv (s.setUeng (uartFed v s.ueng)) where
  live hlive := by
    obtain ⟨hswrst, -, hrx, -, hshift⟩ := h.live hlive
    exact ⟨hswrst, nofun, hrx, nofun, hshift⟩
  ready := nofun
  holding _ := nofun
  shifting := h.shifting
  received := h.received

theorem UartEngineInv.setTxReady_false (h : UartEngineInv s) :
    UartEngineInv (s.setUeng { s.ueng with txReady := .written false }) where
  live hlive := by
    obtain ⟨hswrst, -, hrx, hreg, hshift⟩ := h.live hlive
    exact ⟨hswrst, nofun, hrx, hreg, hshift⟩
  ready := nofun
  holding := h.holding
  shifting := h.shifting
  received := h.received

theorem UartEngineInv.setRxReady_false (h : UartEngineInv s) :
    UartEngineInv (s.setUeng { s.ueng with rxReady := .written false }) where
  live hlive := by
    obtain ⟨hswrst, htx, -, hreg, hshift⟩ := h.live hlive
    exact ⟨hswrst, htx, nofun, hreg, hshift⟩
  ready := h.ready
  holding := h.holding
  shifting := h.shifting
  received := nofun

theorem UartEngineInv.setSwrst (h : UartEngineInv s) (b : Bool) :
    UartEngineInv (s.setUeng { s.ueng with swrst := .written b }) where
  live hlive := by
    obtain ⟨-, htx, hrx, hreg, hshift⟩ := h.live hlive
    exact ⟨nofun, htx, hrx, hreg, hshift⟩
  ready := h.ready
  holding := h.holding
  shifting := h.shifting
  received := h.received

theorem UartEngineInv.release : UartEngineInv (s.setUeng (uartRelease { s.ueng with swrst := .written false })) where
  live _ := ⟨nofun, nofun, nofun, nofun, nofun⟩
  ready _ := rfl
  holding := nofun
  shifting := nofun
  received := nofun

theorem FgStep.uartEngineInv (h : FgStep s i t) (hinv : UartEngineInv s) : UartEngineInv t := by
  cases h
  case uartInitHold => exact (hinv.setSwrst true).congr rfl
  case uartInitFree => exact (hinv.setSwrst false).congr rfl
  case uartInitRelease => exact (UartEngineInv.release (s := s)).congr rfl
  case seeds => exact (hinv.fed _).congr rfl
  all_goals exact ⟨hinv.live, hinv.ready, hinv.holding, hinv.shifting, hinv.received⟩

theorem IrqStep.uartEngineInv (h : IrqStep s i t) (hinv : UartEngineInv s) : UartEngineInv t := by
  cases h
  case uartTxFeeds => exact (hinv.fed _).congr rfl
  case uartTxClears => exact hinv.setTxReady_false.congr rfl
  case uartRxReads => exact hinv.setRxReady_false.congr rfl
  all_goals exact hinv.congr rfl

theorem EnvStep.uartEngineInv (h : EnvStep s c t) (hinv : UartEngineInv s) : UartEngineInv t := by
  cases h
  case uLoad => exact {
    live := fun hlive => by
      obtain ⟨hswrst, -, hrx, -, -⟩ := hinv.live hlive
      exact ⟨hswrst, nofun, hrx, nofun, nofun⟩
    ready := fun _ => rfl
    holding := nofun
    shifting := fun _ => nofun
    received := hinv.received }
  case uShiftOut => exact {
    live := fun hlive => by
      obtain ⟨hswrst, htx, hrx, hreg, -⟩ := hinv.live hlive
      exact ⟨hswrst, htx, hrx, hreg, nofun⟩
    ready := hinv.ready
    holding := hinv.holding
    shifting := nofun
    received := hinv.received }
  case uReceive => exact {
    live := fun hlive => by
      obtain ⟨hswrst, htx, -, hreg, hshift⟩ := hinv.live hlive
      exact ⟨hswrst, htx, nofun, hreg, hshift⟩
    ready := hinv.ready
    holding := hinv.holding
    shifting := hinv.shifting
    received := fun _ => nofun }
  all_goals exact hinv.congr rfl

theorem Taken.uartEngineInv (h : Taken s c t) (hinv : UartEngineInv s) : UartEngineInv t := by
  cases h with
  | stays => exact hinv
  | refuses => exact hinv.congr rfl
  | fg _ _ h => exact h.uartEngineInv hinv
  | irq _ _ h => exact h.uartEngineInv hinv
  | enter => exact hinv.congr rfl
  | env h => exact h.uartEngineInv hinv

/-! ### The I2C engine -/

theorem I2cEngineInv.congr (h : I2cEngineInv s) (he : t.ieng = s.ieng) (hp : t.i2c.phase = s.i2c.phase) :
    I2cEngineInv t :=
  ⟨by rw [he]; exact h.live, by rw [he]; exact h.ready, by rw [he]; exact h.holding, by rw [he]; exact h.shifting,
    by rw [he]; exact h.received, by rw [he, hp]; exact h.bus, by rw [he, hp]; exact h.unborn⟩

theorem I2cEngineInv.fed (h : I2cEngineInv s) (v : Byte) : I2cEngineInv (s.setIeng (i2cFed v s.ieng)) where
  live hlive := by
    obtain ⟨hswrst, hstart, hstop, -, hrx, hnack, hbus, -, hshift, he⟩ := h.live hlive
    exact ⟨hswrst, hstart, hstop, nofun, hrx, hnack, hbus, nofun, hshift, he⟩
  ready := nofun
  holding _ := nofun
  shifting := h.shifting
  received := h.received
  bus := h.bus
  unborn := h.unborn

theorem I2cEngineInv.setTxReady_false (h : I2cEngineInv s) :
    I2cEngineInv (s.setIeng { s.ieng with txReady := .written false }) where
  live hlive := by
    obtain ⟨hswrst, hstart, hstop, -, hrx, hnack, hbus, hreg, hshift, he⟩ := h.live hlive
    exact ⟨hswrst, hstart, hstop, nofun, hrx, hnack, hbus, hreg, hshift, he⟩
  ready := nofun
  holding := h.holding
  shifting := h.shifting
  received := h.received
  bus := h.bus
  unborn := h.unborn

theorem I2cEngineInv.setRxReady_false (h : I2cEngineInv s) :
    I2cEngineInv (s.setIeng { s.ieng with rxReady := .written false }) where
  live hlive := by
    obtain ⟨hswrst, hstart, hstop, htx, -, hnack, hbus, hreg, hshift, he⟩ := h.live hlive
    exact ⟨hswrst, hstart, hstop, htx, nofun, hnack, hbus, hreg, hshift, he⟩
  ready := h.ready
  holding := h.holding
  shifting := h.shifting
  received := nofun
  bus := h.bus
  unborn := h.unborn

theorem I2cEngineInv.setSwrst (h : I2cEngineInv s) (b : Bool) :
    I2cEngineInv (s.setIeng { s.ieng with swrst := .written b }) where
  live hlive := ⟨nofun, (h.live hlive).2⟩
  ready := h.ready
  holding := h.holding
  shifting := h.shifting
  received := h.received
  bus := h.bus
  unborn := h.unborn

theorem I2cEngineInv.setStartReq (h : I2cEngineInv s) (b : Bool) :
    I2cEngineInv (s.setIeng { s.ieng with startReq := .written b }) where
  live hlive := ⟨(h.live hlive).1, nofun, (h.live hlive).2.2⟩
  ready := h.ready
  holding := h.holding
  shifting := h.shifting
  received := h.received
  bus := h.bus
  unborn := h.unborn

theorem I2cEngineInv.setStopReq (h : I2cEngineInv s) (b : Bool) :
    I2cEngineInv (s.setIeng { s.ieng with stopReq := .written b }) where
  live hlive := by
    obtain ⟨hswrst, hstart, -, hrest⟩ := h.live hlive
    exact ⟨hswrst, hstart, nofun, hrest⟩
  ready := h.ready
  holding := h.holding
  shifting := h.shifting
  received := h.received
  bus := h.bus
  unborn := h.unborn

theorem I2cEngineInv.setNack (h : I2cEngineInv s) (b : Bool) :
    I2cEngineInv (s.setIeng { s.ieng with nack := .written b }) where
  live hlive := by
    obtain ⟨hswrst, hstart, hstop, htx, hrx, -, hrest⟩ := h.live hlive
    exact ⟨hswrst, hstart, hstop, htx, hrx, nofun, hrest⟩
  ready := h.ready
  holding := h.holding
  shifting := h.shifting
  received := h.received
  bus := h.bus
  unborn := h.unborn

theorem I2cEngineInv.release : I2cEngineInv ((s.setIeng (i2cRelease { s.ieng with swrst := .written false })).setI2c
    { s.i2c with phase := .idle }) where
  live _ := ⟨nofun, nofun, nofun, nofun, nofun, nofun, nofun, nofun, nofun, nofun⟩
  ready := nofun
  holding := nofun
  shifting := nofun
  received := nofun
  bus _ he := by cases he; exact ⟨rfl, rfl⟩
  unborn _ := rfl

/-- The engine's state moves to `e` with the bus and the phase that `e` stands for (R229, R238). -/
theorem I2cEngineInv.setEstate (h : I2cEngineInv s) (e : EState) :
    I2cEngineInv (setPhase (phaseOf e) (s.setIeng { s.ieng with
      busBusy := .written (decide (e ≠ .idle)), estate := .written e })) where
  live hlive := by
    obtain ⟨hswrst, hstart, hstop, htx, hrx, hnack, -, hreg, hshift, -⟩ := h.live hlive
    exact ⟨hswrst, hstart, hstop, htx, hrx, hnack, nofun, hreg, hshift, nofun⟩
  ready := h.ready
  holding := h.holding
  shifting := h.shifting
  received := h.received
  bus e' he := by cases he; exact ⟨rfl, rfl⟩
  unborn := nofun

theorem FgStep.i2cEngineInv (h : FgStep s i t) (hinv : I2cEngineInv s) : I2cEngineInv t := by
  cases h
  case i2cInitHold => exact (hinv.setSwrst true).congr rfl rfl
  case i2cInitFree => exact (hinv.setSwrst false).congr rfl rfl
  case i2cInitRelease => exact (I2cEngineInv.release (s := s)).congr rfl rfl
  case i2cStart => exact (hinv.setStartReq true).congr rfl rfl
  case i2cStop => exact (hinv.setStopReq true).congr rfl rfl
  all_goals exact ⟨hinv.live, hinv.ready, hinv.holding, hinv.shifting, hinv.received, hinv.bus, hinv.unborn⟩

theorem IrqStep.i2cEngineInv (h : IrqStep s i t) (hinv : I2cEngineInv s) : I2cEngineInv t := by
  cases h
  case i2cTxFeeds => exact (hinv.fed _).congr rfl rfl
  case i2cTxStops => exact (hinv.setStopReq true).congr rfl rfl
  case i2cTxClears => exact hinv.setTxReady_false.congr rfl rfl
  case i2cRxClearsNack => exact (hinv.setNack false).congr rfl rfl
  case i2cRxRetries => exact (hinv.setStartReq true).congr rfl rfl
  case i2cRxPreStops => exact (hinv.setStopReq true).congr rfl rfl
  case i2cRxReads => exact hinv.setRxReady_false.congr rfl rfl
  case i2cRxPostStops => exact (hinv.setStopReq true).congr rfl rfl
  all_goals exact hinv.congr rfl rfl

/-- A byte received raises the flag over a written buffer (R289). -/
theorem I2cEngineInv.receive (h : I2cEngineInv s) (v : Byte) :
    I2cEngineInv (s.setIeng { s.ieng with rxbuf := .written v, rxReady := .written true }) where
  live hlive := by
    obtain ⟨hswrst, hstart, hstop, htx, -, hrest⟩ := h.live hlive
    exact ⟨hswrst, hstart, hstop, htx, nofun, hrest⟩
  ready := h.ready
  holding := h.holding
  shifting := h.shifting
  received _ := nofun
  bus := h.bus
  unborn := h.unborn

theorem I2cEngineInv.setTxReady_true (h : I2cEngineInv s) (hreg : s.ieng.txregFull.Written) :
    I2cEngineInv (s.setIeng { s.ieng with txReady := .written true }) where
  live hlive := by
    obtain ⟨hswrst, hstart, hstop, -, hrest⟩ := h.live hlive
    exact ⟨hswrst, hstart, hstop, nofun, hrest⟩
  ready _ := hreg
  holding := h.holding
  shifting := h.shifting
  received := h.received
  bus := h.bus
  unborn := h.unborn

/-- The holding register goes to the shifter (R285). -/
theorem I2cEngineInv.load (h : I2cEngineInv s) (v : Byte) : I2cEngineInv (s.setIeng { s.ieng with
    shifter := .written v, shifterFull := .written true, txregFull := .written false, txReady := .written true }) where
  live hlive := by
    obtain ⟨hswrst, hstart, hstop, -, hrx, hnack, hbus, -, -, he⟩ := h.live hlive
    exact ⟨hswrst, hstart, hstop, nofun, hrx, hnack, hbus, nofun, nofun, he⟩
  ready _ := nofun
  holding := nofun
  shifting _ := nofun
  received := h.received
  bus := h.bus
  unborn := h.unborn

theorem I2cEngineInv.setShifterFull_false (h : I2cEngineInv s) :
    I2cEngineInv (s.setIeng { s.ieng with shifterFull := .written false }) where
  live hlive := by
    obtain ⟨hswrst, hstart, hstop, htx, hrx, hnack, hbus, hreg, -, he⟩ := h.live hlive
    exact ⟨hswrst, hstart, hstop, htx, hrx, hnack, hbus, hreg, nofun, he⟩
  ready := h.ready
  holding := h.holding
  shifting := nofun
  received := h.received
  bus := h.bus
  unborn := h.unborn

/-- The bus stays busy between two states of a transfer, and the phase stays where both stand for it. -/
theorem I2cEngineInv.setEstate_busy (h : I2cEngineInv s) {e e' : EState} (he : s.ieng.estate = .written e)
    (hbusy : e ≠ .idle ↔ e' ≠ .idle) :
    I2cEngineInv (setPhase (phaseOf e') (s.setIeng { s.ieng with estate := .written e' })) := by
  have hbus : s.ieng.busBusy = .written (decide (e' ≠ .idle)) := by
    rw [(h.bus e he).1, decide_eq_decide.2 hbusy]
  refine (h.setEstate e').congr ?_ rfl
  simp only [setPhase, State.setI2c_ieng, State.setIeng_ieng, ← hbus]

theorem i2cLive_of_moves (h : i2cMoves s = true) : s.ieng.live = true :=
  ((i2cRunning_iff s).1 ((i2cMoves_iff s).1 h).1).1

theorem EnvStep.i2cEngineInv (h : EnvStep s c t) (hinv : I2cEngineInv s) : I2cEngineInv t := by
  cases h
  case iStart => exact (hinv.setEstate .addr).congr rfl rfl
  case iStopEnd => exact (hinv.setEstate .idle).congr rfl rfl
  case iAddressTx hm he hd =>
    obtain ⟨-, -, -, -, -, -, -, hreg, -, -⟩ := hinv.live (i2cLive_of_moves hm)
    exact (((hinv.setStartReq false).setTxReady_true hreg).setEstate_busy he (e' := .tx) (by simp)).congr rfl rfl
  case iAddressRx hm he hd =>
    exact ((hinv.setStartReq false).setEstate_busy he (e' := .rx) (by simp)).congr rfl rfl
  case iAddressNack hm he hd =>
    exact (((hinv.setStartReq false).setNack true).setEstate_busy he (e' := .hold) (by simp)).congr rfl
      (hinv.bus _ he).2
  case iLoad => exact (hinv.load _).congr rfl rfl
  case iByteOutAck => exact hinv.setShifterFull_false.congr rfl rfl
  case iByteOutNack => exact hinv.setShifterFull_false.congr rfl rfl
  case iStopBegin hm hreq he =>
    obtain ⟨e, hst, hne⟩ : ∃ e, s.ieng.estate = .written e ∧ e ≠ .idle := by
      obtain ⟨h, -⟩ | h | ⟨h, -⟩ := (stopBeginState_iff _).1 he <;> exact ⟨_, h, by decide⟩
    exact ((hinv.setStopReq false).setEstate_busy hst (e' := .stopping) (by simp [hne])).congr rfl rfl
  case iByteIn v stop hm he hready hreq =>
    have hphase : s.i2c.phase = .rxByte := (hinv.bus _ he).2
    cases stop
    · exact ((hinv.receive v).setEstate_busy he (e' := .rx) (by simp)).congr rfl hphase
    · exact ((hinv.receive v).setEstate_busy he (e' := .rxlast) (by simp)).congr rfl hphase
  case iStopIdleIgnore => exact (hinv.setStopReq false).congr rfl rfl
  all_goals exact hinv.congr rfl rfl

theorem Taken.i2cEngineInv (h : Taken s c t) (hinv : I2cEngineInv s) : I2cEngineInv t := by
  cases h with
  | stays => exact hinv
  | refuses => exact hinv.congr rfl rfl
  | fg _ _ h => exact h.i2cEngineInv hinv
  | irq _ _ h => exact h.i2cEngineInv hinv
  | enter => exact hinv.congr rfl rfl
  | env h => exact h.i2cEngineInv hinv

end

/-- Settles O57: each agent's step keeps it. -/
theorem uartEngineInvariant : Obligations.UartEngineInvariant := by
  intro s t hinv hstep
  obtain ⟨c, x, htaken⟩ := taken_of_step' hstep
  exact htaken.uartEngineInv (hinv.congr rfl)

/-- Settles O58: each agent's step keeps it. -/
theorem i2cEngineInvariant : Obligations.I2cEngineInvariant := by
  intro s t hinv hstep
  obtain ⟨c, x, htaken⟩ := taken_of_step' hstep
  exact htaken.i2cEngineInv (hinv.congr rfl rfl)

end Sys2Proof.Machine
end

section
/-! PROOFS. Every step keeps what the handlers know of their session (R138, R192, R230 to R232). -/

namespace Sys2Proof.Machine

section

variable {s t : State} {c : Choice} {i : Instr} {h : Handler}

/-! ### Inside a handler -/

theorem currentHandler_of_fg (hctx : s.cpu.ctx = .fg) : currentHandler s = none := by simp [currentHandler, hctx]

theorem currentHandler_congr (hctx : t.cpu.ctx = s.cpu.ctx) (hcfg : t.cfg = s.cfg) :
    currentHandler t = currentHandler s := by
  simp only [currentHandler, hctx, hcfg]

theorem not_inHandler_of_fg (hctx : s.cpu.ctx = .fg) (h : Handler) : ¬ InHandler h s := fun hin => by
  simp [InHandler, currentHandler_of_fg hctx] at hin

/-- The lines of DISPATCH and of TICK_ISR are inside no handler. -/
theorem not_inHandler_of_label (hl : s.irq.label ∈ [IrqLabel.d0, .d2, .d3, .k0, .k1, .k2]) (h : Handler) :
    ¬ InHandler h s := fun hin => not_mem_of_handlerLines hin.2 hl

/-- Inside a handler the interrupt context runs the handler's operation. -/
theorem InHandler.irqInstr_eq (hin : InHandler h s) : irqInstr s = some (handlerInstr h) := by
  obtain ⟨hcur, hl⟩ := hin
  unfold currentHandler at hcur
  split at hcur
  next => cases hcur
  next v j w hctx =>
    refine irqInstr_of_handler hctx ?_ hcur hl
    rintro rfl
    simp [Params.dispatchOrder] at hcur

theorem InHandler.ctx_ne_fg (hin : InHandler h s) : s.cpu.ctx ≠ .fg := ctx_ne_fg_of_irqInstr hin.irqInstr_eq

/-- A handler's operation leaves the state where no line of it stands. -/
theorem IrqStep.eq_or_mem_lines (hstep : IrqStep s (handlerInstr h) t) : t = s ∨ s.irq.label ∈ handlerLines h := by
  cases h <;> cases hstep
  all_goals first
    | exact .inl rfl
    | simp_all [handlerInstr, handlerLines]

/-- A micro-step that ends inside a handler is the dispatcher's call of it, or one of its own lines. -/
theorem IrqStep.inHandler_cases (hi : irqInstr s = some i) (hstep : IrqStep s i t) (hin : InHandler h t) :
    (∃ h', t.irq.label = handlerEntry h') ∨ (i = handlerInstr h ∧ InHandler h s) := by
  obtain ⟨j, w, hctx, rfl⟩ | ⟨v, j, w, -, -, hl, rfl⟩ | ⟨v, j, w, hd, -, -, -, -, rfl⟩ := irqInstr_cases hi
  case inl =>
    have hcpu : t.cpu.ctx = s.cpu.ctx ∨ t.cpu.ctx = .fg := by
      cases hstep <;> first | exact .inl rfl | exact .inr rfl
    obtain hcpu | hcpu := hcpu
    · have hcur := hin.1
      rw [currentHandler_congr hcpu hstep.keeps.cfg] at hcur
      simp [currentHandler, hctx, Params.dispatchOrder] at hcur
    · exact absurd hin (not_inHandler_of_fg hcpu h)
  case inr.inl =>
    obtain ⟨hirq, -⟩ | ⟨-, -, _, _, _, hd, -, -, hlab⟩ | ⟨-, -, hlab⟩ | ⟨-, -, hlab⟩ := hstep.dispatch_label
    · refine absurd hin (not_inHandler_of_label ?_ h)
      rw [hirq]
      exact List.mem_append_left [IrqLabel.k0, .k1, .k2] hl
    · exact .inl ⟨hd, hlab⟩
    · exact absurd hin (not_inHandler_of_label (by simp [hlab]) h)
    · refine absurd hin (not_inHandler_of_label ?_ h)
      simp only [List.mem_cons, List.not_mem_nil, or_false] at hlab ⊢
      tauto
  case inr.inr =>
    have hcur : currentHandler t = some hd :=
      (currentHandler_congr (by rw [hstep.handler_cpu]) hstep.keeps.cfg).trans (currentHandler_of_irqInstr hi)
    obtain rfl : hd = h := Option.some.inj (hcur.symm.trans hin.1)
    refine .inr ⟨rfl, ?_⟩
    obtain rfl | hl := hstep.eq_or_mem_lines
    · exact hin
    · exact ⟨currentHandler_of_irqInstr hi, hl⟩

/-! ### Each handler's session -/

/-- What the UART transmit handler knows at each of its lines (R192). -/
def UartTxSession (s : State) : Prop :=
  (s.irq.label ∈ [IrqLabel.t1, .t2, .t3] → s.ueng.txReady = .written true)
    ∧ (s.irq.label ∈ [IrqLabel.t3, .t4] → 0 < s.uart.txCount)
    ∧ (s.irq.label ∈ [IrqLabel.t5, .t6, .t7] → s.uart.txCount = 0)

/-- What the I2C transmit handler knows at each of its lines (R230). -/
def I2cTxSession (s : State) : Prop :=
  (s.irq.label ∈ [IrqLabel.t2, .t3, .t4] → 0 < s.i2c.count)
    ∧ (s.irq.label ∈ [IrqLabel.t5, .t6, .t7, .t8] → s.i2c.count = 0)

/-- What the I2C receive handler knows at each of its lines (R232). -/
def I2cRxSession (s : State) : Prop := s.irq.label ∈ [IrqLabel.q4, .q5, .q6] → 0 < s.i2c.count

theorem sessionInv_iff (s : State) : SessionInv s ↔ (InHandler .uartTx s → UartTxSession s)
    ∧ (InHandler .i2cTx s → I2cTxSession s) ∧ (InHandler .i2cRx s → I2cRxSession s) :=
  ⟨fun h => ⟨fun hin => ⟨h.uartReady hin, h.uartFeeds hin, h.uartDone hin⟩, fun hin => ⟨h.i2cFeeds hin, h.i2cDone hin⟩,
      h.i2cStores⟩,
    fun ⟨hut, hit, hir⟩ => ⟨fun hin => (hut hin).1, fun hin => (hut hin).2.1, fun hin => (hut hin).2.2,
      fun hin => (hit hin).1, fun hin => (hit hin).2, hir⟩⟩

theorem sessionInv_of_not_inHandler (hnot : ∀ h, ¬ InHandler h s) : SessionInv s :=
  (sessionInv_iff s).2 ⟨fun hin => absurd hin (hnot _), fun hin => absurd hin (hnot _), fun hin => absurd hin (hnot _)⟩

theorem IrqStep.uartTxSession (hstep : IrqStep s .uartHandleTxIrq t) (hs : UartTxSession s) : UartTxSession t := by
  obtain ⟨hready, hfeeds, hdone⟩ := hs
  cases hstep <;> simp_all [UartTxSession, setTxDone]

theorem IrqStep.i2cTxSession (hstep : IrqStep s .i2cHandleTxIrq t) (hs : I2cTxSession s) : I2cTxSession t := by
  obtain ⟨hfeeds, hdone⟩ := hs
  cases hstep <;> simp_all [I2cTxSession, requestStop, setI2cDone]

theorem IrqStep.i2cRxSession (hstep : IrqStep s .i2cHandleRxIrq t) (hs : I2cRxSession s) : I2cRxSession t := by
  cases hstep <;> simp_all [I2cRxSession]

/-- The dispatcher calls a handler at its first line, where no session is known yet. -/
theorem sessionInv_of_entry (hl : s.irq.label = handlerEntry h) : SessionInv s := by
  constructor <;> rw [hl] <;> cases h <;> simp [handlerEntry]

theorem IrqStep.sessionInv (hi : irqInstr s = some i) (hstep : IrqStep s i t) (hinv : SessionInv s) : SessionInv t := by
  obtain ⟨hut, hit, hir⟩ := (sessionInv_iff s).1 hinv
  refine (sessionInv_iff t).2 ⟨fun hin => ?_, fun hin => ?_, fun hin => ?_⟩ <;>
    obtain ⟨h', hl⟩ | ⟨rfl, hin'⟩ := hstep.inHandler_cases hi hin
  · exact ((sessionInv_iff t).1 (sessionInv_of_entry hl)).1 hin
  · exact hstep.uartTxSession (hut hin')
  · exact ((sessionInv_iff t).1 (sessionInv_of_entry hl)).2.1 hin
  · exact hstep.i2cTxSession (hit hin')
  · exact ((sessionInv_iff t).1 (sessionInv_of_entry hl)).2.2 hin
  · exact hstep.i2cRxSession (hir hin')

theorem SessionInv.congr (hinv : SessionInv s) (hctx : t.cpu.ctx = s.cpu.ctx) (hcfg : t.cfg = s.cfg) (hirq : t.irq = s.irq)
    (hready : s.ueng.txReady = .written true → t.ueng.txReady = .written true)
    (htx : t.uart.txCount = s.uart.txCount) (hi2c : t.i2c.count = s.i2c.count) : SessionInv t := by
  have hin (h : Handler) : InHandler h t ↔ InHandler h s := by
    simp only [InHandler, currentHandler_congr hctx hcfg, hirq]
  constructor <;> simp only [hin, hirq, htx, hi2c]
  · exact fun h hl => hready (hinv.uartReady h hl)
  · exact hinv.uartFeeds
  · exact hinv.uartDone
  · exact hinv.i2cFeeds
  · exact hinv.i2cDone
  · exact hinv.i2cStores

/-- No engine lowers the UART's transmit-ready flag. -/
theorem EnvStep.txReady_of (hstep : EnvStep s c t) (hr : s.ueng.txReady = .written true) :
    t.ueng.txReady = .written true := by
  cases hstep <;> first | exact hr | rfl

theorem Taken.sessionInv (htaken : Taken s c t) (hinv : SessionInv s) : SessionInv t := by
  cases htaken with
  | stays => exact hinv
  | refuses => exact hinv.congr rfl rfl rfl id rfl rfl
  | fg hready _ hstep =>
    have hcpu : t.cpu.ctx = s.cpu.ctx := (congrArg (·.cpu.ctx) hstep.frame :)
    exact sessionInv_of_not_inHandler (not_inHandler_of_fg (hcpu.trans ((fgReady_iff s).1 hready).1))
  | irq _ hi hstep => exact hstep.sessionInv hi hinv
  | enter =>
    refine sessionInv_of_not_inHandler (not_inHandler_of_label ?_)
    simp only [irqEnter, State.irqGoto_irq]
    split_ifs <;> simp
  | env hstep =>
    exact hinv.congr (congrArg (·.cpu.ctx) hstep.frame :) hstep.keeps.cfg (congrArg State.irq hstep.frame :)
      hstep.txReady_of (congrArg (·.uart.txCount) hstep.frame :) (congrArg (·.i2c.count) hstep.frame :)

/-! ### A feed never overwrites -/

/-- Only the I2C engine records faults of the environment. -/
theorem EnvStep.fault_cases (hstep : EnvStep s c t) {f : FaultRec} (hf : f ∈ t.fault) :
    f ∈ s.fault ∨ (f.agent = .envI ∧ f.reason ≠ .unwrittenRead) := by
  cases hstep
  case iByteOutNack | iStopIdleFault | iStartBusy =>
    obtain hf | hf := List.mem_append.1 hf
    · exact .inl hf
    · rw [List.mem_singleton.1 hf]; exact .inr ⟨rfl, nofun⟩
  all_goals exact .inl hf

/-- At the line that feeds, the flag is still raised, so the holding register is empty (R192). -/
theorem IrqStep.uartTx_no_overwrite (hstep : IrqStep s .uartHandleTxIrq t) (hs : UartTxSession s)
    (heng : UartEngineInv s) {f : FaultRec} (hf : f ∈ t.fault) (hr : f.reason = .txbufOverwrite) : f ∈ s.fault := by
  obtain ⟨hready, -, -⟩ := hs
  cases hstep
  case uartTxOverwrites hl hfull =>
    have hempty := heng.ready (hready (by simp [hl]))
    simp [hempty] at hfull
  case uartTxUnwritten =>
    obtain hf | hf := List.mem_append.1 hf
    · exact hf
    · rw [List.mem_singleton.1 hf] at hr; cases hr
  case exitUnwritten hi _ => simp at hi
  all_goals exact hf

theorem Taken.uartTx_no_overwrite (htaken : Taken s c t) (hinv : SessionInv s) (heng : UartEngineInv s)
    (hin : InHandler .uartTx s) {f : FaultRec} (hf : f ∈ t.fault) (ha : f.agent = .irq)
    (hr : f.reason = .txbufOverwrite) : f ∈ s.fault := by
  cases htaken with
  | stays => exact hf
  | refuses => exact hf
  | fg hready => exact absurd ((fgReady_iff s).1 hready).1 hin.ctx_ne_fg
  | irq _ hi hstep =>
    rw [hin.irqInstr_eq] at hi
    cases hi
    exact hstep.uartTx_no_overwrite (((sessionInv_iff s).1 hinv).1 hin) heng hf hr
  | enter => exact hf
  | env hstep =>
    obtain hf | ⟨ha', -⟩ := hstep.fault_cases hf
    · exact hf
    · simp [ha] at ha'

end

/-- Settles O59: a handler's micro-step keeps its own session, no other agent touches it, and a full holding register
contradicts the flag that the handler found raised. -/
theorem sessionInvariant : Obligations.SessionInvariant := by
  intro s t hinv hstep
  obtain ⟨c, x, htaken⟩ := taken_of_step' hstep
  have hinv' : SessionInv (s.setSched x) := hinv.congr rfl rfl rfl id rfl rfl
  exact ⟨htaken.sessionInv hinv', fun heng hin f hf ha hr =>
    htaken.uartTx_no_overwrite hinv' (heng.congr rfl) hin hf ha hr⟩

end Sys2Proof.Machine
end

section
/-! PROOFS. Every step keeps every register in its width and its legal values (R11, R28, R50, R55, R56, R61, R126, R197). -/

namespace Sys2Proof.Machine

theorem meets_written {α : Type} {p : α → Prop} {v : α} (h : p v) : (Reg.written v).Meets p := by
  rintro _ ⟨⟩
  exact h

section

variable {s t : State} {c : Choice} {i : Instr}

/-! ### Operands in range (R102) -/

theorem transferCount_lt {p : BitVec 32} {n : BitVec 16} {tmo : Option (BitVec 16)} {cfg : Params}
    (h : rangeOk cfg (.uartTransfer p n tmo) = true) : n.toNat < 2 ^ cfg.countW := by
  cases tmo <;> exact ((rangeOk_iff _ _).1 h).2.1

theorem i2cOperands_lt {dir : Dir} {a : SlaveAddr} {p n : Nat} {tmo : Option Nat} {cfg : Params}
    (h : rangeOk cfg i = true) (hop : i2cOperands i = some (dir, a, p, n, tmo)) :
    p < 2 ^ cfg.addrW ∧ n < 2 ^ cfg.countW := by
  cases i <;> cases hop
  all_goals
    simp only [rangeOk, Bool.and_eq_true, ptrInRange, countInRange, decide_eq_true_eq] at h
    exact h.1

theorem tmoInRange_lt {cfg : Params} {tmo : Option (BitVec 16)} {n : Nat} (h : tmoInRange cfg tmo = true)
    (hn : tmoOp tmo = some n) : n < 2 ^ cfg.tmoW := by
  simpa [tmoInRange, hn] using h

/-- A wait's timeout is its operand, so it is in range. -/
theorem waitOf_timeout_lt {cond : Bool} {n : Nat} {exit : Label} {cfg : Params} (h : rangeOk cfg i = true)
    (hw : waitOf s i = some (cond, some n, exit)) : n < 2 ^ cfg.tmoW := by
  cases i <;> simp only [waitOf, Option.some.injEq, Prod.mk.injEq, reduceCtorEq] at hw
  all_goals
    simp only [rangeOk, Bool.and_eq_true] at h
    exact tmoInRange_lt (by simp only [h]) hw.2.1

/-! ### Claims under BOOLEAN (R50; log 14) -/

theorem claimCount_claim_le (h : ∀ d, claimCount s.claims d ≤ 1) (hkind : s.cfg.claimKind = .boolean) (c d : ClockId) :
    claimCount (claim c s).claims d ≤ 1 := by
  rw [(claim_cases c s).2 d, hkind]
  split_ifs
  · exact le_rfl
  · exact h d

theorem claimCount_releaseOne_le (h : ∀ d, claimCount s.claims d ≤ 1) (c d : ClockId) :
    claimCount (releaseOne c s).claims d ≤ 1 := by
  have hc := h c
  have hd := h d
  simp only [releaseOne, State.setClaims_claims, claimCount_setClaim]
  split_ifs <;> omega

/-! ### Each agent's step -/

theorem RegisterInv.addDeadline (hinv : RegisterInv s) (dl ticks : Nat) : RegisterInv (addDeadline dl ticks s) :=
  { hinv with dl := meets_written (Nat.mod_lt _ (Nat.two_pow_pos _)) }

theorem FgStep.registerInv (hstep : FgStep s i t) (hinv : RegisterInv s) (hrange : rangeOk s.cfg i = true)
    (hcount : 1 ≤ s.cfg.countW) : RegisterInv t := by
  have hmod (n : Nat) : n % 2 ^ s.cfg.ctrW < 2 ^ s.cfg.ctrW := Nat.mod_lt _ (Nat.two_pow_pos _)
  cases hstep
  case swuPutcStart => exact { hinv with dl := meets_written hinv.ctr }
  case swuPutcFirstDeadline => exact { hinv with dl := meets_written (hmod _) }
  case swuPutcDeadline => exact { hinv with dl := meets_written (hmod _) }
  case swuPutcLastDeadline => exact { hinv with dl := meets_written (hmod _) }
  case swuGetcDelay => exact { hinv with dl := meets_written (hmod _) }
  case swuGetcDeadline => exact { hinv with dl := meets_written (hmod _) }
  case swuGetcLastDeadline => exact { hinv with dl := meets_written (hmod _) }
  case uartStatusClear => exact { hinv with framing := rfl }
  case uartInitClaim => exact { hinv with claims := fun hb d => claimCount_claim_le (hinv.claims hb) hb _ d }
  case uartEnables => exact { hinv with claims := fun hb d => claimCount_claim_le (hinv.claims hb) hb _ d }
  case i2cEnables => exact { hinv with claims := fun hb d => claimCount_claim_le (hinv.claims hb) hb _ d }
  case i2cClaim => exact { hinv with claims := fun hb d => claimCount_claim_le (hinv.claims hb) hb _ d }
  case uartDisables => exact { hinv with claims := fun hb d => claimCount_releaseOne_le (hinv.claims hb) _ d }
  case i2cDisables => exact { hinv with claims := fun hb d => claimCount_releaseOne_le (hinv.claims hb) _ d }
  case i2cRelease => exact { hinv with claims := fun hb d => claimCount_releaseOne_le (hinv.claims hb) _ d }
  case uartInitDiv hv => exact { hinv with brDiv := meets_written hv }
  case uartInitRem hv => exact { hinv with brRem := meets_written hv }
  case uartInitMod hv => exact { hinv with brMod := meets_written hv }
  case uartInitClock hv => exact { hinv with uartClock := meets_written hv }
  case i2cInitClock hv => exact { hinv with i2cClock := meets_written hv }
  case i2cInitPresc hv => exact { hinv with presc := meets_written hv }
  case i2cInitMaster => exact { hinv with master := meets_written rfl }
  case transferCount => exact { hinv with txCount := transferCount_lt hrange }
  case putcCount => exact { hinv with txCount := Nat.one_lt_two_pow (Nat.one_le_iff_ne_zero.1 hcount) }
  case putsCount => exact { hinv with txCount := hinv.len }
  case transferCursor => exact { hinv with txCursor := cursorAfter_lt s _ }
  case putsCursor => exact { hinv with txCursor := cursorAfter_lt s _ }
  case putsStart => exact { hinv with len := Nat.two_pow_pos _ }
  case putsGoesOn hlen => exact { hinv with len := hlen }
  case waitArms n _ hl hw =>
    exact { hinv with
      guard := waitOf_timeout_lt hrange hw
      counting := fun _ hexp => Nat.one_le_iff_ne_zero.2 (beq_eq_false_iff_ne.1 hexp) }
  case waitDisarms => exact { hinv with counting := nofun }
  case i2cCount hop => exact { hinv with count := (i2cOperands_lt hrange hop).2 }
  case i2cCursor hop => exact { hinv with cursor := (i2cOperands_lt hrange hop).1 }
  all_goals exact { hinv with }

theorem IrqStep.registerInv (hstep : IrqStep s i t) (hinv : RegisterInv s) : RegisterInv t := by
  cases hstep
  case uartTxCounts =>
    have hle : (if 0 < s.uart.txCount then s.uart.txCount - 1 else s.uart.txCount) ≤ s.uart.txCount := by
      split_ifs <;> omega
    exact { hinv with txCount := hle.trans_lt hinv.txCount }
  case uartTxCursor => exact { hinv with txCursor := cursorAfter_lt s _ }
  case i2cTxCursor => exact { hinv with cursor := cursorAfter_lt s _ }
  case i2cRxCursor => exact { hinv with cursor := cursorAfter_lt s _ }
  case i2cTxCounts => exact { hinv with count := (Nat.sub_le _ _).trans_lt hinv.count }
  case i2cRxCounts => exact { hinv with count := (Nat.sub_le _ _).trans_lt hinv.count }
  case tickTicks =>
    have hguard : (tgTick s.tg).count < 2 ^ s.cfg.tmoW ∧ ((tgTick s.tg).armed = true → (tgTick s.tg).expired = false →
        1 ≤ (tgTick s.tg).count) := by
      obtain ⟨-, -, heq⟩ | ⟨-, heq⟩ := tgTick_cases s.tg <;> rw [heq]
      · refine ⟨(Nat.sub_le _ _).trans_lt hinv.guard, fun _ hexp => ?_⟩
        simp only [beq_eq_false_iff_ne] at hexp
        exact Nat.one_le_iff_ne_zero.2 hexp
      · exact ⟨hinv.guard, hinv.counting⟩
    exact { hinv with guard := hguard.1, counting := hguard.2 }
  all_goals exact { hinv with }

theorem EnvStep.registerInv (hstep : EnvStep s c t) (hinv : RegisterInv s) : RegisterInv t := by
  cases hstep
  case ctr => exact { hinv with ctr := Nat.mod_lt _ (Nat.two_pow_pos _) }
  all_goals exact { hinv with }

theorem Taken.registerInv (htaken : Taken s c t) (hinv : RegisterInv s) (hcount : 1 ≤ s.cfg.countW) : RegisterInv t := by
  cases htaken with
  | stays => exact hinv
  | refuses => exact { hinv with }
  | fg _ hi hstep => exact hstep.registerInv hinv ((fgInstr_ok_iff _ _).1 hi).2.1 hcount
  | irq _ _ hstep => exact hstep.registerInv hinv
  | enter => exact { hinv with }
  | env hstep => exact hstep.registerInv hinv

/-! ### The bit index (R28) -/

/-- The bit index is set to 0, or counts one bit at the line of the bit (R154 P5, R157 G5). -/
theorem FgStep.bitIndex_cases (hstep : FgStep s i t) : t.swu.i = s.swu.i ∨ t.swu.i = .written 0
    ∨ (∃ n, s.swu.i = .written n ∧ s.fg.label = .l5 ∧ (i = .swuGetc ∨ ∃ b, i = .swuPutc b) ∧ t.swu.i = .written (n + 1)) := by
  cases hstep
  case swuPutcFirstDeadline => exact .inr (.inl rfl)
  case swuGetcDelay => exact .inr (.inl rfl)
  case swuPutcDeadline hl _ hi => exact .inr (.inr ⟨_, hi, hl, .inr ⟨_, rfl⟩, rfl⟩)
  case swuGetcBit hl _ hi => exact .inr (.inr ⟨_, hi, hl, .inl rfl, rfl⟩)
  all_goals exact .inl rfl

/-- At the line of the bit the index is still below 8. -/
theorem bitIndex_lt (hw : forWritten s i) (hi : i = .swuGetc ∨ ∃ b, i = .swuPutc b) (hl : s.fg.label = .l5) {n : Nat}
    (hn : s.swu.i = .written n) : n < 8 := by
  obtain rfl | ⟨b, rfl⟩ := hi
  · obtain ⟨-, -, -, hmeets⟩ := hw (by simp [hl])
    simpa [hl] using hmeets n hn
  · obtain ⟨-, hmeets⟩ := hw.2 (by simp [hl])
    simpa [hl] using hmeets n hn

theorem Taken.bitIndexInv (htaken : Taken s c t) (hfor : ∀ i, fgInstr s = .ok i → forWritten s i)
    (hinv : BitIndexInv s) : BitIndexInv t := by
  have hsame {t' : State} (hi : t'.swu.i = s.swu.i) : BitIndexInv t' := by
    rw [BitIndexInv, hi]
    exact hinv
  cases htaken with
  | stays => exact hinv
  | refuses => exact hinv
  | enter => exact hinv
  | irq _ _ hstep => exact hsame (congrArg (·.swu.i) hstep.frame :)
  | env hstep => exact hsame (congrArg (·.swu.i) hstep.frame :)
  | fg _ hi hstep =>
    obtain heq | heq | ⟨n, hn, hl, hkind, heq⟩ := hstep.bitIndex_cases
    · exact hsame heq
    · rw [BitIndexInv, heq]
      exact meets_written (Nat.zero_le 8)
    · rw [BitIndexInv, heq]
      exact meets_written (bitIndex_lt (hfor _ hi) hkind hl hn)

end

theorem one_le_countW {cfg : Params} (h : cfg.allowed = true) : 1 ≤ cfg.countW := by
  simp only [Params.allowed, Bool.and_eq_true, decide_eq_true_eq, and_assoc] at h
  obtain ⟨-, -, hcount, -⟩ := h
  exact hcount

/-- Settles O56: each agent's step keeps the registers it writes in range; the bit index is below 8 where it is counted. -/
theorem registerInvariant : Obligations.RegisterInvariant := by
  intro s t hallowed hinv hstep
  obtain ⟨c, x, htaken⟩ := taken_of_step' hstep
  have hcount : 1 ≤ s.cfg.countW := one_le_countW hallowed
  have hinv' : RegisterInv (s.setSched x) := { hinv with }
  exact ⟨htaken.registerInv hinv' hcount, fun hreads hbit => htaken.bitIndexInv hreads.foreground hbit⟩

end Sys2Proof.Machine
end

section
/-! PROOFS. No micro-step reads an unwritten element (R65): the position, what each operation has written before the lines that
read it, and the launch. -/

namespace Sys2Proof.Machine

section

variable {s t : State} {c : Choice} {i : Instr}

/-! ### The foreground's position (R22) -/

/-- A timed operation has the lines of WAIT, and the line it goes on at. -/
theorem fgLines_of_waitOf {cond : Bool} {tmo : Option Nat} {exit : Label} (cfg : Params)
    (hw : waitOf s i = some (cond, tmo, exit)) : waitLines cfg ⊆ fgLines cfg i ∧ exit ∈ fgLines cfg i := by
  cases i <;> simp only [waitOf, Option.some.injEq, Prod.mk.injEq, reduceCtorEq] at hw
  all_goals
    obtain ⟨-, -, rfl⟩ := hw
    exact ⟨List.subset_append_right _ _, List.mem_append_left _ (by decide)⟩

theorem fgLines_of_i2cOperands {ops : Dir × SlaveAddr × Nat × Nat × Option Nat} (cfg : Params)
    (hop : i2cOperands i = some ops) : fgLines cfg i = fgLines.i2cLines cfg := by
  cases i <;> first | rfl | cases hop

/-- The lines of WAIT that both variants have (R130, R131). -/
theorem mem_waitLines (cfg : Params) {l : Label} (hl : l ∈ [Label.w0, .w1, .w4, .w5]) : l ∈ waitLines cfg := by
  simp only [List.mem_cons, List.not_mem_nil, or_false] at hl
  unfold waitLines
  split <;> simp <;> tauto

theorem mem_waitLines_of_not_atomic {cfg : Params} (ha : cfg.waitAtomic = false) {l : Label}
    (hl : l ∈ [Label.w2, .w3]) : l ∈ waitLines cfg := by
  simp only [List.mem_cons, List.not_mem_nil, or_false] at hl
  obtain rfl | rfl := hl <;> simp [waitLines, ha]

/-- A WAIT at W2 is not the atomic one. -/
theorem not_atomic_of_w2 {cond : Bool} {tmo : Option Nat} {exit : Label} {cfg : Params}
    (hw : waitOf s i = some (cond, tmo, exit)) (hl : Label.w2 ∈ fgLines cfg i) : cfg.waitAtomic = false := by
  by_contra ha
  simp only [Bool.not_eq_false] at ha
  cases i <;> simp only [waitOf, reduceCtorEq] at hw
  all_goals simp [fgLines, fgLines.i2cLines, waitLines, ha] at hl

theorem waitLines_of_seedLine {l : Label} (cfg : Params) (hl : seedLine i = some l) : waitLines cfg ⊆ fgLines cfg i := by
  cases i <;> cases hl
  all_goals exact List.subset_append_right _ _

/-- From a line of its operation, a micro-step that does not start the next one goes to a line of the operation. -/
theorem FgStep.label_mem (hstep : FgStep s i t) (hl : s.fg.label = .l0 ∨ s.fg.label ∈ fgLines s.cfg i) :
    t.fg.label = .l0 ∨ (t.fg.k = s.fg.k ∧ t.fg.label ∈ fgLines s.cfg i) := by
  cases hstep
  case seeds hlab => exact .inr ⟨rfl, waitLines_of_seedLine s.cfg hlab (mem_waitLines s.cfg (by simp))⟩
  case waitArms _ hw => exact .inr ⟨rfl, (fgLines_of_waitOf s.cfg hw).1 (mem_waitLines s.cfg (by simp))⟩
  case waitStarts _ hw => exact .inr ⟨rfl, (fgLines_of_waitOf s.cfg hw).1 (mem_waitLines s.cfg (by simp))⟩
  case waitChecks _ ha hw =>
    exact .inr ⟨rfl, (fgLines_of_waitOf s.cfg hw).1 (mem_waitLines_of_not_atomic ha (by simp))⟩
  case waitLeaves _ hw => exact .inr ⟨rfl, (fgLines_of_waitOf s.cfg hw).1 (mem_waitLines s.cfg (by simp))⟩
  case waitGoesOn hlab hw =>
    rw [hlab] at hl
    have ha := not_atomic_of_w2 hw (hl.resolve_left (by simp))
    exact .inr ⟨rfl, (fgLines_of_waitOf s.cfg hw).1 (mem_waitLines_of_not_atomic ha (by simp))⟩
  case waitSleeps _ hw => exact .inr ⟨rfl, (fgLines_of_waitOf s.cfg hw).1 (mem_waitLines s.cfg (by simp))⟩
  case waitWakes _ hw => exact .inr ⟨rfl, (fgLines_of_waitOf s.cfg hw).1 (mem_waitLines s.cfg (by simp))⟩
  case waitReturns _ hw => exact .inr ⟨rfl, (fgLines_of_waitOf s.cfg hw).2⟩
  case waitDisarms _ hw => exact .inr ⟨rfl, (fgLines_of_waitOf s.cfg hw).2⟩
  case getcBegins => exact .inr ⟨rfl, List.mem_append_right _ (mem_waitLines s.cfg (by simp))⟩
  case i2cWaits _ hop =>
    rw [fgLines_of_i2cOperands _ hop]
    exact .inr ⟨rfl, List.mem_append_right _ (mem_waitLines s.cfg (by simp))⟩
  case i2cStop _ hop =>
    rw [fgLines_of_i2cOperands _ hop]
    exact .inr ⟨rfl, List.mem_append_right _ (mem_waitLines s.cfg (by simp))⟩
  all_goals first
    | exact .inl rfl
    | exact hl.imp_right fun h => ⟨rfl, h⟩
    | refine .inr ⟨rfl, ?_⟩; simp [fgLines]; done
    | refine .inr ⟨rfl, ?_⟩; rw [fgLines_of_i2cOperands _ ‹_›]; simp [fgLines.i2cLines]

theorem FgStep.positionInv (hstep : FgStep s i t) (hi : fgInstr s = .ok i) (hinv : PositionInv s) : PositionInv t := by
  have hl : s.fg.label = .l0 ∨ s.fg.label ∈ fgLines s.cfg i := by
    refine hinv.imp_right fun ⟨i', hi', hl⟩ => ?_
    rw [hi] at hi'
    cases hi'
    exact hl
  refine (hstep.label_mem hl).imp_right fun ⟨hk, hmem⟩ => ⟨i, (hstep.fgInstr_eq hk).trans hi, ?_⟩
  rw [hstep.keeps.cfg]
  exact hmem

/-- The position is the foreground's alone. -/
theorem PositionInv.congr (hinv : PositionInv s) (hcfg : t.cfg = s.cfg) (hfg : t.fg = s.fg) : PositionInv t := by
  rw [PositionInv, fgInstr_congr hcfg (by rw [hfg]) (by rw [hfg]), hcfg, hfg]
  exact hinv

theorem Taken.positionInv (htaken : Taken s c t) (hinv : PositionInv s) : PositionInv t := by
  cases htaken with
  | stays => exact hinv
  | refuses => exact hinv.congr rfl rfl
  | fg _ hi hstep => exact hstep.positionInv hi hinv
  | irq _ _ hstep => exact hinv.congr hstep.keeps.cfg (congrArg State.fg hstep.frame :)
  | enter => exact hinv.congr rfl rfl
  | env hstep => exact hinv.congr hstep.keeps.cfg (congrArg State.fg hstep.frame :)

/-! ### What the foreground operation in progress has written (R65, R154, R157, R364) -/

/-- At the start of an operation nothing need be written yet. -/
theorem forWritten_of_l0 (hl : s.fg.label = .l0) (i : Instr) : forWritten s i := by
  cases i <;> simp [forWritten, hl]

/-- A live engine stays live, and nothing else that an operation counts on is another agent's. -/
theorem forWritten_mono (hw : forWritten s i) (hl : t.fg.label = s.fg.label) (hswu : t.swu = s.swu)
    (hu : s.ueng.live = true → t.ueng.live = true) (hi : s.ieng.live = true → t.ieng.live = true) : forWritten t i := by
  cases i <;> simp only [forWritten, hl, hswu] at hw ⊢
  all_goals first
    | exact hw
    | exact ⟨fun hn hne => hu (hw.1 hn hne), fun hn hne => hi (hw.2 hn hne)⟩

theorem seedLine_ne_l0 (i : Instr) : seedLine i ≠ some .l0 := by
  cases i <;> simp [seedLine]

/-- A UART operation leaves its first line with the engine released (R364). -/
theorem FgStep.uartLive_of_start (hstep : FgStep s i t) (hn : needsUart i = true) (hl : s.fg.label = .l0)
    (hne : t.fg.label ≠ .l0) : s.ueng.live = true := by
  have hno := i2cOperands_of_needsUart hn
  cases hstep
  all_goals first
    | exact absurd hl hne
    | cases hn; done
    | simp_all [seedLine_ne_l0]

/-- An I2C transfer leaves its first line with the engine released (R364). -/
theorem FgStep.i2cLive_of_start (hstep : FgStep s i t) (hop : (i2cOperands i).isSome = true) (hl : s.fg.label = .l0)
    (hne : t.fg.label ≠ .l0) : s.ieng.live = true := by
  have hno := seedLine_of_i2cOperands hop
  cases hstep
  all_goals first
    | exact absurd hl hne
    | cases hop
    | simp_all

/-- The lines of SWU_PUTC write what its later lines read; the other lines are no lines of it. -/
theorem FgStep.swuPutc_forWritten {b : Byte} (hstep : FgStep s (.swuPutc b) t) (hw : forWritten s (.swuPutc b)) :
    forWritten t (.swuPutc b) := by
  simp only [forWritten] at hw ⊢
  cases hstep
  all_goals first
    | exact hw
    | simp_all [Reg.Written, Reg.Meets, driveTx, addDeadline, i2cOperands, waitOf, seedLine]

/-- The lines of SWU_GETC write what its later lines read; the other lines are no lines of it. -/
theorem FgStep.swuGetc_forWritten (hstep : FgStep s .swuGetc t) (hw : forWritten s .swuGetc) :
    forWritten t .swuGetc := by
  simp only [forWritten] at hw ⊢
  cases hstep
  all_goals first
    | exact hw
    | simp_all [Reg.Written, Reg.Meets, sampleRx, addDeadline, i2cOperands, waitOf, seedLine]

/-- Each line leaves written what the operation's later lines read. -/
theorem FgStep.forWritten (hstep : FgStep s i t) (hw : forWritten s i) : forWritten t i := by
  by_cases hl : t.fg.label = .l0
  · exact forWritten_of_l0 hl i
  have hu : needsUart i = true → (s.fg.label ≠ .l0 → s.ueng.live = true) → t.ueng.live = true := fun hn hold => by
    by_cases hl' : s.fg.label = .l0
    · exact hstep.keeps.uartLive (hstep.uartLive_of_start hn hl' hl)
    · exact hstep.keeps.uartLive (hold hl')
  have hi : (i2cOperands i).isSome = true → (s.fg.label ≠ .l0 → s.ieng.live = true) → t.ieng.live = true :=
    fun hop hold => by
      by_cases hl' : s.fg.label = .l0
      · exact hstep.keeps.i2cLive (hstep.i2cLive_of_start hop hl' hl)
      · exact hstep.keeps.i2cLive (hold hl')
  cases i
  case swuPutc => exact hstep.swuPutc_forWritten hw
  case swuGetc => exact hstep.swuGetc_forWritten hw
  all_goals exact ⟨fun hn _ => hu hn (hw.1 hn), fun hop _ => hi hop (hw.2 hop)⟩

theorem Taken.forWritten (htaken : Taken s c t) (hinv : ∀ i, fgInstr s = .ok i → forWritten s i) :
    ∀ i, fgInstr t = .ok i → Machine.forWritten t i := by
  intro i' hi'
  have hother (hcfg : t.cfg = s.cfg) (hfg : t.fg = s.fg) (hswu : t.swu = s.swu) : Machine.forWritten t i' := by
    rw [fgInstr_congr hcfg (by rw [hfg]) (by rw [hfg])] at hi'
    exact forWritten_mono (hinv i' hi') (by rw [hfg]) hswu htaken.keeps.uartLive htaken.keeps.i2cLive
  cases htaken with
  | stays => exact hinv i' hi'
  | refuses => exact hother rfl rfl rfl
  | irq _ _ hstep => exact hother hstep.keeps.cfg (congrArg State.fg hstep.frame :) (congrArg State.swu hstep.frame :)
  | enter => exact hother rfl rfl rfl
  | env hstep => exact hother hstep.keeps.cfg (congrArg State.fg hstep.frame :) (congrArg State.swu hstep.frame :)
  | fg _ hi hstep =>
    obtain hk | ⟨-, hl⟩ := hstep.position_cases
    · rw [hstep.fgInstr_eq hk, hi] at hi'
      cases hi'
      exact hstep.forWritten (hinv _ hi)
    · exact forWritten_of_l0 hl i'

/-! ### What the handler in progress has found written (R65, R192, R193, R230, R232) -/

theorem irqWritten_of_not_inHandler (hnot : ∀ h, ¬ InHandler h s) : irqWritten s :=
  ⟨fun hin => absurd hin (hnot _), fun hin => absurd hin (hnot _), fun hin => absurd hin (hnot _),
    fun hin => absurd hin (hnot _)⟩

/-- What the UART transmit handler reads, at the lines before it does. -/
def HandlerWritten (s : State) : Handler → Prop
  | .uartTx => s.irq.label ∈ [IrqLabel.t1, .t2, .t3] → s.ueng.txregFull.Written
  | .uartRx => s.irq.label = .q1 → s.ueng.rxbuf.Written
  | .i2cTx => s.irq.label ∈ [IrqLabel.t1, .t2] → s.ieng.txregFull.Written
  | .i2cRx => s.irq.label ∈ [IrqLabel.q1, .q2] → s.ieng.rxbuf.Written

theorem irqWritten_iff (s : State) : irqWritten s ↔ ∀ h, InHandler h s → HandlerWritten s h :=
  ⟨fun ⟨hut, hur, hit, hir⟩ h => by cases h <;> assumption,
    fun h => ⟨h .uartTx, h .uartRx, h .i2cTx, h .i2cRx⟩⟩

theorem written_of_eq {α : Type} {r : Reg α} {v : α} (h : r = .written v) : r.Written := by
  rw [h]
  exact nofun

theorem IrqStep.handlerWritten {h : Handler} (hstep : IrqStep s (handlerInstr h) t) (hu : UartEngineInv s)
    (hi : I2cEngineInv s) (hw : HandlerWritten s h) : HandlerWritten t h := by
  cases h <;> simp only [HandlerWritten] at hw ⊢ <;> cases hstep
  case uartTx.uartTxReady _ hr => exact fun _ => written_of_eq (hu.ready hr)
  case uartRx.uartRxReady _ hr => exact fun _ => hu.received hr
  case i2cTx.i2cTxReady _ hr => exact fun _ => hi.ready hr
  case i2cRx.i2cRxReady _ hr => exact fun _ => hi.received hr
  all_goals first
    | exact hw
    | simp_all [requestStop]

theorem IrqStep.irqWritten (hstep : IrqStep s i t) (hi : irqInstr s = some i) (hue : UartEngineInv s)
    (hie : I2cEngineInv s) (hw : irqWritten s) : Machine.irqWritten t := by
  rw [irqWritten_iff] at hw ⊢
  intro h hin
  obtain ⟨h', hl⟩ | ⟨rfl, hin'⟩ := hstep.inHandler_cases hi hin
  · cases h <;> cases h' <;> simp [HandlerWritten, hl, handlerEntry]
  · exact hstep.handlerWritten hue hie (hw h hin')

/-- No step of the environment takes a written flag or byte back. -/
theorem EnvStep.written (hstep : EnvStep s c t) :
    (s.ueng.txregFull.Written → t.ueng.txregFull.Written) ∧ (s.ueng.rxbuf.Written → t.ueng.rxbuf.Written)
      ∧ (s.ieng.txregFull.Written → t.ieng.txregFull.Written) ∧ (s.ieng.rxbuf.Written → t.ieng.rxbuf.Written) := by
  cases hstep
  case uLoad => exact ⟨fun _ => nofun, id, id, id⟩
  case uReceive => exact ⟨id, fun _ => nofun, id, id⟩
  case iLoad => exact ⟨id, id, fun _ => nofun, id⟩
  case iByteIn => exact ⟨id, id, id, fun _ => nofun⟩
  all_goals exact ⟨id, id, id, id⟩

theorem irqWritten_mono (hw : irqWritten s) (hctx : t.cpu.ctx = s.cpu.ctx) (hcfg : t.cfg = s.cfg) (hirq : t.irq = s.irq)
    (hut : s.ueng.txregFull.Written → t.ueng.txregFull.Written) (hur : s.ueng.rxbuf.Written → t.ueng.rxbuf.Written)
    (hit : s.ieng.txregFull.Written → t.ieng.txregFull.Written)
    (hir : s.ieng.rxbuf.Written → t.ieng.rxbuf.Written) : irqWritten t := by
  obtain ⟨hwut, hwur, hwit, hwir⟩ := hw
  simp only [irqWritten, InHandler, currentHandler_congr hctx hcfg, hirq]
  exact ⟨fun hin hl => hut (hwut hin hl), fun hin hl => hur (hwur hin hl), fun hin hl => hit (hwit hin hl),
    fun hin hl => hir (hwir hin hl)⟩

theorem Taken.irqWritten (htaken : Taken s c t) (hue : UartEngineInv s) (hie : I2cEngineInv s) (hw : irqWritten s) :
    Machine.irqWritten t := by
  cases htaken with
  | stays => exact hw
  | refuses => exact irqWritten_mono hw rfl rfl rfl id id id id
  | fg hready _ hstep =>
    have hcpu : t.cpu.ctx = s.cpu.ctx := (congrArg (·.cpu.ctx) hstep.frame :)
    exact irqWritten_of_not_inHandler (not_inHandler_of_fg (hcpu.trans ((fgReady_iff s).1 hready).1))
  | irq _ hi hstep => exact hstep.irqWritten hi hue hie hw
  | enter =>
    refine irqWritten_of_not_inHandler (not_inHandler_of_label ?_)
    simp only [irqEnter, State.irqGoto_irq]
    split_ifs <;> simp
  | env hstep =>
    obtain ⟨hut, hur, hit, hir⟩ := hstep.written
    exact irqWritten_mono hw (congrArg (·.cpu.ctx) hstep.frame :) hstep.keeps.cfg (congrArg State.irq hstep.frame :)
      hut hur hit hir

/-! ### No UNWRITTEN_READ -/

/-- A fault list to which no UNWRITTEN_READ is added. -/
def Clean (s : State) : Prop := ∀ f ∈ s.fault, f.reason ≠ .unwrittenRead

theorem Clean.raise (hc : Clean s) (a : Agent) {r : Fault} (hr : r ≠ .unwrittenRead) : Clean (s.raise a r) := by
  intro f hf
  obtain hf | hf := List.mem_append.1 hf
  · exact hc f hf
  · rw [List.mem_singleton.1 hf]
    exact hr

theorem not_swuPutcUnwritten {b : Byte} (hw : forWritten s (.swuPutc b)) : ¬ SwuPutcUnwritten s := by
  rintro (⟨hr, hl⟩ | ⟨hr, hl⟩ | ⟨hr, hl⟩)
  · exact (hw.1 fun h0 => by simp [h0] at hl).1 hr
  · exact (hw.1 (by simp [hl])).2 hr
  · refine (hw.2 ?_).1 hr
    simp only [List.mem_cons, List.not_mem_nil, or_false] at hl
    obtain hl | hl := hl <;> simp [hl]

theorem not_swuGetcUnwritten (hw : forWritten s .swuGetc) : ¬ SwuGetcUnwritten s := by
  have hrun (hl : s.fg.label ∉ [Label.l0, .l1]) : s.swu.dl.Written ∧ s.swu.acc.Written ∧ s.swu.i.Written := by
    obtain ⟨hdl, hacc, hi, -⟩ := hw hl
    exact ⟨hdl, hacc, hi⟩
  rintro (⟨hr, hl⟩ | ⟨hr, hl⟩ | ⟨hr, hl⟩) <;> obtain ⟨hdl, hacc, hi⟩ := hrun fun h => by
    simp only [List.mem_cons, List.not_mem_nil, or_false] at h hl
    obtain h | h := h <;> simp [h] at hl
  · exact hdl hr
  · exact hacc hr
  · exact hi hr

theorem uartLive_of_forWritten (hw : forWritten s i) (hn : needsUart i = true) (hl : s.fg.label ≠ .l0) :
    s.ueng.live = true := by
  cases i <;> first | exact hw.1 hn hl | cases hn

theorem i2cLive_of_forWritten (hw : forWritten s i) (hop : (i2cOperands i).isSome = true) (hl : s.fg.label ≠ .l0) :
    s.ieng.live = true := by
  cases i <;> first | exact hw.2 hop hl | cases hop

theorem needsUart_of_seedLine {l : Label} (hl : seedLine i = some l) : needsUart i = true := by
  cases i <;> first | rfl | cases hl

/-- What a foreground micro-step reads is written: its own locals, and the flags of a released engine. -/
theorem FgStep.clean (hstep : FgStep s i t) (hw : Machine.forWritten s i) (hue : UartEngineInv s)
    (hie : I2cEngineInv s) (hc : Clean s) : Clean t := by
  cases hstep
  case swuPutcUnwritten h => exact absurd h (not_swuPutcUnwritten hw)
  case swuGetcUnwritten h => exact absurd h (not_swuGetcUnwritten hw)
  case uartUnderflows => exact hc.raise _ nofun
  case i2cUnderflows => exact hc.raise _ nofun
  case seedOverwrites => exact hc.raise _ nofun
  case transferUnderflows => exact hc.raise _ nofun
  case seedUnwritten hr hl =>
    have hlive := uartLive_of_forWritten hw (needsUart_of_seedLine hl) fun h0 => seedLine_ne_l0 i (h0 ▸ hl)
    obtain ⟨-, -, -, hreg, -⟩ := hue.live hlive
    exact absurd hr hreg
  case i2cUnwritten hr hop =>
    have hne : s.fg.label ≠ .l0 := fun h0 => by simp [h0] at hr
    obtain ⟨-, hstart, -, -, -, -, hbus, -⟩ := hie.live (i2cLive_of_forWritten hw (by simp [hop]) hne)
    obtain ⟨hr, -⟩ | ⟨hr, -⟩ := hr
    · exact absurd hr hstart
    · exact absurd hr hbus
  all_goals exact hc

theorem InHandler.of_irqInstr {h : Handler} (hi : irqInstr s = some (handlerInstr h)) (hl : s.irq.label ∈ handlerLines h) :
    InHandler h s := ⟨currentHandler_of_irqInstr hi, hl⟩

/-- What a micro-step of the interrupt context reads is written: what its handler has probed, and the saved sleep. -/
theorem IrqStep.clean (hstep : IrqStep s i t) (hi : irqInstr s = some i) (hctx : ContextInv s)
    (hw : Machine.irqWritten s) (hc : Clean s) : Clean t := by
  obtain ⟨hut, hur, hit, hir⟩ := hw
  cases hstep
  case uartTxUnwritten hl hr =>
    exact absurd hr (hut (.of_irqInstr (h := .uartTx) hi (by simp [hl, handlerLines])) (by simp [hl]))
  case uartRxUnwritten hl hr =>
    exact absurd hr (hur (.of_irqInstr (h := .uartRx) hi (by simp [hl, handlerLines])) hl)
  case i2cTxUnwritten hl hr =>
    exact absurd hr (hit (.of_irqInstr (h := .i2cTx) hi (by simp [hl, handlerLines])) (by simp [hl]))
  case i2cRxUnwritten hl hr =>
    exact absurd hr (hir (.of_irqInstr (h := .i2cRx) hi (by simp [hl, handlerLines])) (by simp [hl]))
  case exitUnwritten hsaved _ _ =>
    obtain ⟨-, -, hsaved'⟩ := hctx.masked (ctx_ne_fg_of_irqInstr hi)
    exact absurd hsaved hsaved'
  case uartTxOverwrites => exact hc.raise _ nofun
  case i2cTxOverwrites => exact hc.raise _ nofun
  all_goals exact hc

theorem Taken.clean (htaken : Taken s c t) (hinv : ReadsInv s) : Clean t := by
  cases htaken with
  | stays => exact hinv.clean
  | refuses => exact hinv.clean
  | fg _ hi hstep => exact hstep.clean (hinv.foreground _ hi) hinv.uart hinv.i2c hinv.clean
  | irq _ hi hstep => exact hstep.clean hi hinv.context hinv.handler hinv.clean
  | enter => exact hinv.clean
  | env hstep =>
    intro f hf
    obtain hf | ⟨-, hr⟩ := hstep.fault_cases hf
    · exact hinv.clean f hf
    · exact hr

end

theorem ReadsInv.setSched {s : State} {x : Sched} (h : ReadsInv s) : ReadsInv (s.setSched x) where
  context := h.context.setSched
  position := h.position.congr rfl rfl
  uart := h.uart.congr rfl
  i2c := h.i2c.congr rfl rfl
  foreground i hi := forWritten_mono (h.foreground i hi) rfl rfl id id
  handler := irqWritten_mono h.handler rfl rfl rfl id id id id
  clean := h.clean

/-- Settles O60: each part by its own lemma; the context's part is ContextInvariant's. -/
theorem noUnwrittenRead : Obligations.NoUnwrittenRead := by
  intro s t hinv hstep
  obtain ⟨c, x, htaken⟩ := taken_of_step' hstep
  have hinv' : ReadsInv (s.setSched x) := hinv.setSched
  exact {
    context := contextInvariant s t hinv.context hstep
    position := htaken.positionInv hinv'.position
    uart := htaken.uartEngineInv hinv'.uart
    i2c := htaken.i2cEngineInv hinv'.i2c
    foreground := htaken.forWritten hinv'.foreground
    handler := htaken.irqWritten hinv'.uart hinv'.i2c hinv'.handler
    clean := htaken.clean hinv' }

/-! ### The launch (R63, R360) -/

section

variable (cfg : Params) (g : Launch)

theorem launch_contextInv : ContextInv (State.launch cfg g) := ⟨fun hne => absurd rfl hne, nofun⟩

theorem launch_uartEngineInv : UartEngineInv (State.launch cfg g) := ⟨nofun, nofun, nofun, nofun, nofun⟩

theorem launch_i2cEngineInv : I2cEngineInv (State.launch cfg g) :=
  ⟨nofun, nofun, nofun, nofun, nofun, nofun, fun _ => rfl⟩

theorem launch_sessionInv : SessionInv (State.launch cfg g) :=
  sessionInv_of_not_inHandler (not_inHandler_of_fg rfl)

theorem launch_label : (State.launch cfg g).fg.label = .l0 := rfl

theorem launch_readsInv : ReadsInv (State.launch cfg g) where
  context := launch_contextInv cfg g
  position := .inl (launch_label cfg g)
  uart := launch_uartEngineInv cfg g
  i2c := launch_i2cEngineInv cfg g
  foreground i _ := forWritten_of_l0 (launch_label cfg g) i
  handler := irqWritten_of_not_inHandler (not_inHandler_of_fg rfl)
  clean f hf := absurd hf (by simp [State.launch])

theorem launch_registerInv (hctr : g.ctr < 2 ^ cfg.ctrW) : RegisterInv (State.launch cfg g) where
  ctr := hctr
  dl := nofun
  len := Nat.two_pow_pos _
  txCount := Nat.two_pow_pos _
  txCursor := Nat.two_pow_pos _
  count := Nat.two_pow_pos _
  cursor := Nat.two_pow_pos _
  claims _ _ := Nat.zero_le 1
  guard := Nat.two_pow_pos _
  counting := nofun
  framing := rfl
  brDiv := nofun
  brRem := nofun
  brMod := nofun
  uartClock := nofun
  i2cClock := nofun
  presc := nofun
  master := nofun

/-- Every invariant at a launch: the memory's and the counter's from the launch's own, the others from the reset values. -/
theorem launch_invariants (hwf : Memory.wf g.mem = true) (hmem : ∀ x ∈ g.mem, x.1 < 2 ^ cfg.addrW)
    (hctr : g.ctr < 2 ^ cfg.ctrW) :
    let s := State.launch cfg g
    MemInv s ∧ ContextInv s ∧ RegisterInv s ∧ BitIndexInv s ∧ UartEngineInv s ∧ I2cEngineInv s ∧ SessionInv s
      ∧ ReadsInv s :=
  ⟨⟨hwf, hmem⟩, launch_contextInv cfg g, launch_registerInv cfg g hctr, nofun, launch_uartEngineInv cfg g,
    launch_i2cEngineInv cfg g, launch_sessionInv cfg g, launch_readsInv cfg g⟩

end

/-- Settles O53: the reset state is a launch. -/
theorem invariantsHoldAtLaunch : Obligations.InvariantsHoldAtLaunch :=
  ⟨fun c g _ hwf hmem hctr => launch_invariants c g hwf hmem hctr,
    launch_invariants Params.vectors Launch.reset rfl nofun (Nat.two_pow_pos _)⟩

end Sys2Proof.Machine
end

section
/-! PROOFS. Whole operations that nothing interrupts: a dispatcher's order, a wait, and the two inits; and the launch's
configuration check (R130 to R132, R150, R181, R183, R220, R221, R334, R363). -/

namespace Sys2Proof.Machine

/-! ### Runs of one operation -/

theorem execN_step {n : Nat} {i : Instr} {s u : State} {o : Host.Outcome State Fault Refusal} (h : exec i s = .next u)
    (ho : execN n i u = o) : execN (n + 1) i s = o := by
  rw [← ho, execN, h]

theorem execN_add {m n : Nat} {i : Instr} {s u : State} (h : execN m i s = .next u) :
    execN (m + n) i s = execN n i u := by
  induction m generalizing s with
  | zero =>
    cases h
    rw [Nat.zero_add]
  | succ m ih =>
    obtain ⟨t, ht⟩ := exec_next i s
    rw [Nat.add_right_comm]
    refine execN_step ht (ih ?_)
    rw [execN, ht] at h
    exact h

/-! ### A whole dispatch (R330, R334) -/

/-- Settles O13: by induction along the order, the accumulator after `k` returns is the disjunction of the first `k` answers. -/
theorem dispatchWakesIfAnyHandlerAsks : Obligations.DispatchWakesIfAnyHandlerAsks := by
  intro c num v r ctx _ hstart hnum hstep
  have hprefix : ∀ k, k ≤ (c.dispatchOrder v).length → ctx k = .irq v k ((List.range k).any r) := by
    intro k
    induction k with
    | zero => exact fun _ => hstart
    | succ k ih =>
      intro hk
      obtain ⟨s, t, rfl, hctx, hl, hwh, hexec, hnext⟩ := hstep k hk
      rw [ih (Nat.le_of_succ_le hk)] at hctx
      rw [exec_dispatch_d2 hctx hnum hl] at hexec
      cases hexec
      simp [hnext, hwh, List.range_succ]
  exact hprefix _ le_rfl

/-! ### A whole wait (R130 to R132) -/

section

variable {i : Instr} {s : State} {cond : Bool} {tmo : Option Nat} {exit : Label}

/-- A wait's condition reads the drivers alone. -/
theorem waitOf_congr {t : State} (hu : t.uart = s.uart) (hi : t.i2c = s.i2c) (i : Instr) : waitOf t i = waitOf s i := by
  cases i <;> simp only [waitOf, hu, hi]

theorem execN_wait_step {n : Nat} {u : State} {o : Host.Outcome State Fault Refusal}
    (hw : waitOf s i = some (cond, tmo, exit)) (hl : s.fg.label ∈ [Label.w0, .w1, .w2, .w3, .w4, .w5])
    (hu : waitStep cond tmo exit s = u) (ho : execN n i u = o) : execN (n + 1) i s = o :=
  execN_step (hu ▸ exec_of_waitOf hw hl) ho

/-- The guard after W5: TG_DISARM where the wait has a timeout (R128). -/
def guardAtReturn (tmo : Option Nat) (g : Guard) : Guard := if tmo.isSome then { g with armed := false } else g

/-- From W5 a wait returns. -/
theorem execN_wait_returns (hw : waitOf s i = some (cond, tmo, exit)) (hl : s.fg.label = .w5) :
    execN 1 i s = .next ((s.setTg (guardAtReturn tmo s.tg)).goto exit) := by
  cases htmo : tmo.isSome
  · rw [guardAtReturn, if_neg (by simp [htmo])]
    exact execN_wait_step hw (by simp [hl]) (waitStep_w5_none hl (by simpa using htmo)) rfl
  · rw [guardAtReturn, if_pos htmo]
    exact execN_wait_step hw (by simp [hl]) (waitStep_w5_some hl htmo) rfl

/-- From W1 a wait whose condition or guard holds returns. -/
theorem execN_wait_leaves (hw : waitOf s i = some (cond, tmo, exit)) (hl : s.fg.label = .w1)
    (hc : (cond || tgTriggered tmo s.tg) = true) :
    ∃ t, execN (if s.cfg.waitAtomic then 2 else 3) i s = .next t ∧ t.fg.label = exit ∧ t.fg.k = s.fg.k
      ∧ t.cpu = s.cpu ∧ t.tg = guardAtReturn tmo s.tg := by
  have hw' {t : State} (hu : t.uart = s.uart) (hi : t.i2c = s.i2c) : waitOf t i = some (cond, tmo, exit) :=
    (waitOf_congr hu hi i).trans hw
  cases ha : s.cfg.waitAtomic
  case false =>
    have hrun : execN 3 i s =
        .next (((s.setFg { s.fg with c := true }).setTg (guardAtReturn tmo s.tg)).goto exit) := by
      refine execN_wait_step hw (by simp [hl]) (waitStep_w1 hl ha) ?_
      rw [hc]
      refine execN_wait_step (hw' rfl rfl) (by simp) (waitStep_w2 rfl) ?_
      exact execN_wait_returns (hw' rfl rfl) rfl
    exact ⟨_, hrun, rfl, rfl, rfl, rfl⟩
  case true =>
    have hrun : execN 2 i s = .next ((s.setTg (guardAtReturn tmo s.tg)).goto exit) := by
      refine execN_wait_step hw (by simp [hl]) (waitStep_w1_leaves hl ha hc) ?_
      exact execN_wait_returns (hw' rfl rfl) rfl
    exact ⟨_, hrun, rfl, rfl, rfl, rfl⟩

/-- From W1 a wait whose condition and guard do not hold sleeps at W4. -/
theorem execN_wait_sleeps (hw : waitOf s i = some (cond, tmo, exit)) (hl : s.fg.label = .w1)
    (hc : (cond || tgTriggered tmo s.tg) = false) :
    ∃ t, execN (if s.cfg.waitAtomic then 1 else 3) i s = .next t ∧ t.fg.label = .w4 ∧ t.fg.k = s.fg.k
      ∧ t.cpu = { s.cpu with asleep := true } ∧ t.tg = s.tg := by
  have hw' {t : State} (hu : t.uart = s.uart) (hi : t.i2c = s.i2c) : waitOf t i = some (cond, tmo, exit) :=
    (waitOf_congr hu hi i).trans hw
  cases ha : s.cfg.waitAtomic
  case false =>
    have hrun : execN 3 i s =
        .next (((s.setFg { s.fg with c := false }).setCpu { s.cpu with asleep := true }).goto .w4) := by
      refine execN_wait_step hw (by simp [hl]) (waitStep_w1 hl ha) ?_
      rw [hc]
      refine execN_wait_step (hw' rfl rfl) (by simp) (waitStep_w2 rfl) ?_
      exact execN_wait_step (hw' rfl rfl) (by simp) (waitStep_w3 rfl) rfl
    exact ⟨_, hrun, rfl, rfl, rfl, rfl⟩
  case true =>
    have hrun : execN 1 i s = .next ((s.setCpu { s.cpu with asleep := true }).goto .w4) :=
      execN_wait_step hw (by simp [hl]) (waitStep_w1_sleeps hl ha hc) rfl
    exact ⟨_, hrun, rfl, rfl, rfl, rfl⟩

/-- The guard after W0: TG_ARM where the wait has a timeout (R125). -/
def guardAtStart (tmo : Option Nat) (g : Guard) : Guard :=
  tmo.elim g fun n => { armed := true, count := n, expired := n == 0 }

theorem waitStep_w0 (hl : s.fg.label = .w0) :
    waitStep cond tmo exit s = (s.setTg (guardAtStart tmo s.tg)).goto .w1 := by
  cases tmo with
  | none => rw [waitStep_w0_none hl rfl]; rfl
  | some n => rw [waitStep_w0_some hl rfl]; rfl

/-- A guard that was just armed has expired exactly where it was armed with 0 ticks. -/
theorem tgTriggered_guardAtStart (tmo : Option Nat) (g : Guard) :
    tgTriggered tmo (guardAtStart tmo g) = decide (tmo = some 0) := by
  cases tmo <;> simp [tgTriggered, guardAtStart, beq_eq_decide]

end

/-- Settles O19: after W0 the wait stands at W1 with its guard just armed, and there returns or sleeps. -/
theorem waitReturnsOrSleeps : Obligations.WaitReturnsOrSleeps := by
  intro i s cond tmo exit hw hl
  have hw' : waitOf ((s.setTg (guardAtStart tmo s.tg)).goto .w1) i = some (cond, tmo, exit) :=
    (waitOf_congr rfl rfl i).trans hw
  refine ⟨fun hc => ?returns, fun hcond htmo => ?sleeps⟩
  case returns =>
    obtain ⟨t, hrun, hlab, hk, hcpu, htg⟩ := execN_wait_leaves hw' rfl
      (by rw [State.goto_tg, State.setTg_tg, tgTriggered_guardAtStart]; simpa using hc)
    refine ⟨t, ?_, hlab, hk, hcpu, fun hsome => ?_, fun hnone => ?_⟩
    · have hlen : (if s.cfg.waitAtomic then 3 else 4) = (if s.cfg.waitAtomic then 2 else 3) + 1 := by split_ifs <;> rfl
      rw [hlen]
      exact execN_wait_step hw (by simp [hl]) (waitStep_w0 hl) hrun
    · rw [htg, guardAtReturn, if_pos hsome]
    · subst hnone
      exact htg
  case sleeps =>
    obtain ⟨t, hrun, hlab, hk, hcpu, htg⟩ := execN_wait_sleeps hw' rfl
      (by rw [State.goto_tg, State.setTg_tg, tgTriggered_guardAtStart]; simp [hcond, htmo])
    refine ⟨t, ?_, hlab, hk, hcpu, ?_⟩
    · have hlen : (if s.cfg.waitAtomic then 2 else 4) = (if s.cfg.waitAtomic then 1 else 3) + 1 := by split_ifs <;> rfl
      rw [hlen]
      exact execN_wait_step hw (by simp [hl]) (waitStep_w0 hl) hrun
    · rintro n rfl
      rw [htg]
      simpa [guardAtStart] using htmo

/-! ### A whole init (R183, R221): each line on an engine of its own -/

section

variable {s : State} {e : UartEngine}

theorem exec_uartInit_hold : exec .uartInit ((s.setUeng e).goto .l1) =
    .next ((s.setUeng { e with swrst := .written true }).goto .l2) := by
  rw [exec_uartInit_l1 rfl]
  rfl

theorem exec_uartInit_baudDiv (hv : LegalValues s.cfg) : exec .uartInit ((s.setUeng e).goto .l2) =
    .next ((s.setUeng { e with brDiv := .written s.cfg.baudDiv }).goto .l3) := by
  rw [exec_uartInit_l2 rfl]
  exact congrArg Host.Outcome.next (writeLegal_of_legal _ _ hv.baudDiv)

theorem exec_uartInit_baudRem (hv : LegalValues s.cfg) : exec .uartInit ((s.setUeng e).goto .l3) =
    .next ((s.setUeng { e with brRem := .written s.cfg.baudRem }).goto .l4) := by
  rw [exec_uartInit_l3 rfl]
  exact congrArg Host.Outcome.next (writeLegal_of_legal _ _ (decide_eq_true hv.baudRem))

theorem exec_uartInit_baudMod (hv : LegalValues s.cfg) : exec .uartInit ((s.setUeng e).goto .l4) =
    .next ((s.setUeng { e with brMod := .written s.cfg.baudMod }).goto .l5) := by
  rw [exec_uartInit_l4 rfl]
  exact congrArg Host.Outcome.next (writeLegal_of_legal _ _ (decide_eq_true hv.baudMod))

theorem exec_uartInit_clock (hv : LegalValues s.cfg) : exec .uartInit ((s.setUeng e).goto .l5) =
    .next ((s.setUeng { e with clksel := .written s.cfg.clkA }).goto .l6) := by
  rw [exec_uartInit_l5 rfl]
  exact congrArg Host.Outcome.next (writeLegal_of_legal _ _ hv.clkA)

theorem exec_uartInit_release (hheld : e.swrst = .written true) : exec .uartInit ((s.setUeng e).goto .l6) =
    .next ((s.setUeng (uartRelease { e with swrst := .written false })).goto .l7) := by
  rw [exec_uartInit_l6 rfl, writeUartSwrst_false_of_held hheld]
  rfl

theorem exec_uartInit_txIe : exec .uartInit ((s.setUeng e).goto .l7) =
    .next ((s.setUeng { e with txIe := .written true }).goto .l8) := by
  rw [exec_uartInit_l7 rfl]
  rfl

theorem exec_uartInit_rxIe : exec .uartInit ((s.setUeng e).goto .l8) =
    .next (s.setUeng { e with rxIe := .written true }).done := by
  rw [exec_uartInit_l8 rfl]
  rfl

end

section

variable {s : State} {e : I2cEngine}

theorem exec_i2cInit_master : exec .i2cInit ((s.setIeng e).goto .l1) =
    .next ((s.setIeng { e with master := .written true }).goto .l2) := by
  rw [exec_i2cInit_l1 rfl]
  rfl

theorem exec_i2cInit_clock (hv : LegalValues s.cfg) : exec .i2cInit ((s.setIeng e).goto .l2) =
    .next ((s.setIeng { e with clksel := .written s.cfg.clkB }).goto .l3) := by
  rw [exec_i2cInit_l2 rfl]
  exact congrArg Host.Outcome.next (writeLegal_of_legal _ _ hv.clkB)

theorem exec_i2cInit_presc (hv : LegalValues s.cfg) : exec .i2cInit ((s.setIeng e).goto .l3) =
    .next ((s.setIeng { e with presc := .written s.cfg.i2cDiv }).goto .l4) := by
  rw [exec_i2cInit_l3 rfl]
  exact congrArg Host.Outcome.next (writeLegal_of_legal _ _ hv.i2cDiv)

theorem exec_i2cInit_release (hheld : e.swrst = .written true) : exec .i2cInit ((s.setIeng e).goto .l4) =
    .next (((s.setI2c { s.i2c with phase := .idle }).setIeng (i2cRelease { e with swrst := .written false })).goto .l5) := by
  rw [exec_i2cInit_l4 rfl, writeI2cSwrst_false_of_held hheld]
  rfl

theorem exec_i2cInit_txIe : exec .i2cInit ((s.setIeng e).goto .l5) =
    .next ((s.setIeng { e with txIe := .written true }).goto .l6) := by
  rw [exec_i2cInit_l5 rfl]
  rfl

theorem exec_i2cInit_rxIe : exec .i2cInit ((s.setIeng e).goto .l6) =
    .next ((s.setIeng { e with rxIe := .written true }).goto .l7) := by
  rw [exec_i2cInit_l6 rfl]
  rfl

theorem exec_i2cInit_nackIe : exec .i2cInit ((s.setIeng e).goto .l7) =
    .next (s.setIeng { e with nackIe := .written true }).done := by
  rw [exec_i2cInit_l7 rfl]
  rfl

end

/-- The UART engine after a whole UART_INIT, whatever it held before (R183). -/
def uartConfigured (c : Params) (e : UartEngine) : UartEngine :=
  { e with
    swrst := .written false, brDiv := .written c.baudDiv, brRem := .written c.baudRem, brMod := .written c.baudMod,
    clksel := .written c.clkA, txIe := .written true, rxIe := .written true, txReady := .written true,
    rxReady := .written false, txregFull := .written false, shifterFull := .written false, live := true }

/-- The I2C engine after a whole I2C_INIT, whatever it held before (R221). -/
def i2cConfigured (c : Params) (e : I2cEngine) : I2cEngine :=
  { e with
    swrst := .written false, master := .written true, clksel := .written c.clkB, presc := .written c.i2cDiv,
    startReq := .written false, stopReq := .written false, txIe := .written true, rxIe := .written true,
    nackIe := .written true, txReady := .written false, rxReady := .written false, nack := .written false,
    busBusy := .written false, estate := .written .idle, txregFull := .written false, shifterFull := .written false,
    live := true }

/-- The lines in order: the hold of L1 is what L6 releases. -/
theorem execN_uartInit {s : State} (hl : s.fg.label = .l0) (hv : LegalValues s.cfg) :
    execN 9 .uartInit s = .next ((claim s.cfg.clkA s).setUeng (uartConfigured s.cfg s.ueng)).done := by
  refine execN_step (exec_uartInit_l0 hl) ?_
  refine execN_step (exec_uartInit_hold (s := claim s.cfg.clkA s) (e := s.ueng)) ?_
  refine execN_step (exec_uartInit_baudDiv hv) ?_
  refine execN_step (exec_uartInit_baudRem hv) ?_
  refine execN_step (exec_uartInit_baudMod hv) ?_
  refine execN_step (exec_uartInit_clock hv) ?_
  refine execN_step (exec_uartInit_release rfl) ?_
  refine execN_step exec_uartInit_txIe ?_
  exact execN_step exec_uartInit_rxIe rfl

/-- The lines in order: the hold of I0 is what I4 releases. -/
theorem execN_i2cInit {s : State} (hl : s.fg.label = .l0) (hv : LegalValues s.cfg) :
    execN 8 .i2cInit s =
      .next ((s.setI2c { s.i2c with phase := .idle }).setIeng (i2cConfigured s.cfg s.ieng)).done := by
  refine execN_step (exec_i2cInit_l0 hl) ?_
  refine execN_step exec_i2cInit_master ?_
  refine execN_step (exec_i2cInit_clock hv) ?_
  refine execN_step (exec_i2cInit_presc hv) ?_
  refine execN_step (exec_i2cInit_release rfl) ?_
  refine execN_step exec_i2cInit_txIe ?_
  refine execN_step exec_i2cInit_rxIe ?_
  exact execN_step exec_i2cInit_nackIe rfl

/-- Settles O29: the two runs, and the one claim of UART_INIT. -/
theorem initIsIdempotent : Obligations.InitIsIdempotent := by
  intro s hl hok
  have hv : LegalValues s.cfg := legalValues_of_configOk hok
  refine ⟨⟨_, execN_uartInit hl hv, rfl, rfl, fun d => ?claims⟩, ⟨_, execN_i2cInit hl hv, rfl, rfl⟩⟩
  refine ((claim_cases s.cfg.clkA s).2 d).trans ?_
  by_cases hd : d = s.cfg.clkA
  · subst hd; rfl
  · simp only [if_neg hd]

/-! ### The launch's configuration check (R150, R181, R220, R363) -/

theorem swuOk_eq_false_iff (c : Params) : c.swuOk = false ↔
    c.sSw = 0 ∨ c.bitTime = 0 ∨ 2 ^ (c.ctrW - 1) ≤ c.bitTime ∨ 2 ^ (c.ctrW - 1) ≤ c.rxStartDelay := by
  simp only [Params.swuOk, ← Bool.not_eq_true, Bool.and_eq_true, decide_eq_true_eq, not_and_or, not_lt, not_not, ne_eq,
    or_assoc]

theorem uartOk_eq_false_iff (c : Params) : c.uartOk = false ↔
    c.sA = 0 ∨ ¬ c.clkA < c.clockFreq.length ∨ c.baudDiv = 0 ∨ 2 ^ c.brW ≤ c.baudDiv ∨ 2 ^ c.brW ≤ c.baudRem
      ∨ 2 ^ c.modW ≤ c.baudMod := by
  simp only [Params.uartOk, Params.isClock, ← Bool.not_eq_true, Bool.and_eq_true, decide_eq_true_eq, not_and_or, not_lt,
    not_not, ne_eq, or_assoc]

theorem i2cOk_eq_false_iff (c : Params) : c.i2cOk = false ↔
    c.roleB ≠ .master ∨ ¬ c.clkB < c.clockFreq.length ∨ c.i2cDiv = 0 ∨ 2 ^ c.brW ≤ c.i2cDiv := by
  simp only [Params.i2cOk, Params.isClock, ← Bool.not_eq_true, Bool.and_eq_true, decide_eq_true_eq, beq_iff_eq,
    not_and_or, not_lt, not_le, Nat.lt_one_iff, ne_eq, or_assoc]

theorem launch_refused_iff (c : Params) (g : Launch) :
    (State.launch c g).refused = some .config ↔ c.swuOk = false ∨ c.uartOk = false ∨ c.i2cOk = false := by
  have hok : c.configOk = false ↔ c.swuOk = false ∨ c.uartOk = false ∨ c.i2cOk = false := by
    simp only [Params.configOk, Bool.and_eq_false_iff, or_assoc]
  rw [← hok]
  simp [State.launch]

/-- Settles O27: the refusal is the check's, and a refused launch has no step; the rest is written in the launch. -/
theorem launchState : Obligations.LaunchState := by
  intro c g
  refine ⟨?refusal, ?only, fun h => step_of_refused h, rfl, rfl, rfl, rfl, rfl, rfl, rfl, rfl, rfl, rfl, fun _ => rfl, rfl,
    rfl, rfl, rfl, rfl, rfl, rfl, rfl, rfl⟩
  case refusal =>
    rw [launch_refused_iff, swuOk_eq_false_iff, uartOk_eq_false_iff, i2cOk_eq_false_iff]
    simp only [or_assoc]
    exact Iff.rfl
  case only =>
    cases h : c.configOk <;> simp [State.launch, h]

end Sys2Proof.Machine
end

section
/-! PROOFS. Whole operations that no other agent's step comes between: the scan of UART_PUTS, and one call of each handler
(R187, R192, R193, R230, R232 to R235). -/

namespace Sys2Proof.Machine

/-! ### The scan of UART_PUTS (R187) -/

section

variable {p : BitVec 32} {tmo : Option (BitVec 16)} {s : State}

/-- The foreground about to read the byte at index `k` of the string, with `b` the last byte read. -/
def scanAt (s : State) (k : Nat) (b : Byte) : State := s.setFg { s.fg with len := k, b := b, label := .l1 }

/-- The read of S1 at index `k`. -/
theorem exec_scanAt {k : Nat} {b : Byte} (hadm : s.admitted (p.toNat + k) = true) :
    exec (.uartPuts p tmo) (scanAt s k b) = .next ((scanAt s k (memGet s.mem (p.toNat + k))).goto .l2) := by
  rw [exec_uartPuts_l1 rfl]
  exact congrArg Host.Outcome.next (memRead_of_admitted _ hadm)

/-- One round of the scan: a byte that is not 0, with room for the next one. -/
theorem execN_scanAt_round {k : Nat} {b : Byte} (hadm : s.admitted (p.toNat + k) = true)
    (hb : memGet s.mem (p.toNat + k) ≠ 0) (haddr : p.toNat + k + 1 < 2 ^ s.cfg.addrW) (hcount : k + 1 < 2 ^ s.cfg.countW) :
    execN 2 (.uartPuts p tmo) (scanAt s k b) = .next (scanAt s (k + 1) (memGet s.mem (p.toNat + k))) :=
  execN_step (exec_scanAt hadm) (execN_step (exec_uartPuts_l2_goes_on rfl hb haddr hcount) rfl)

/-- The scan over `k` bytes that are not 0 takes two micro-steps each. -/
theorem execN_scanAt {b : Byte} (k : Nat) (hstr : ∀ j, j < k → s.admitted (p.toNat + j) = true
      ∧ memGet s.mem (p.toNat + j) ≠ 0) (haddr : p.toNat + k < 2 ^ s.cfg.addrW) (hcount : k < 2 ^ s.cfg.countW) :
    ∃ b', execN (2 * k) (.uartPuts p tmo) (scanAt s 0 b) = .next (scanAt s k b') := by
  induction k with
  | zero => exact ⟨b, rfl⟩
  | succ k ih =>
    obtain ⟨b', hrun⟩ := ih (fun j hj => hstr j (Nat.lt_succ_of_lt hj)) (by omega) (by omega)
    obtain ⟨hadm, hb⟩ := hstr k (Nat.lt_succ_self k)
    refine ⟨memGet s.mem (p.toNat + k), ?_⟩
    rw [Nat.mul_succ, execN_add hrun]
    exact execN_scanAt_round hadm hb (by omega) hcount

/-- S0 starts the scan. -/
theorem exec_scan_start (hl : s.fg.label = .l0) (hlive : s.ueng.live = true) :
    exec (.uartPuts p tmo) s = .next (scanAt s 0 s.fg.b) :=
  exec_uartPuts_l0 hl hlive

/-- A string of `n` bytes and a zero: the scan ends at the session's first line. -/
theorem execN_scan_ends {n : Nat} (hl : s.fg.label = .l0) (hlive : s.ueng.live = true) (hn : 0 < n)
    (hstr : ∀ k, k < n → s.admitted (p.toNat + k) = true ∧ memGet s.mem (p.toNat + k) ≠ 0)
    (haddr : p.toNat + n < 2 ^ s.cfg.addrW) (hcount : n < 2 ^ s.cfg.countW)
    (hadm : s.admitted (p.toNat + n) = true) (hend : memGet s.mem (p.toNat + n) = 0) :
    execN (2 * n + 5) (.uartPuts p tmo) s = .next { s with fg := { s.fg with len := n, b := 0, label := .x1 } } := by
  obtain ⟨b, hrun⟩ := execN_scanAt (tmo := tmo) (b := s.fg.b) n hstr haddr hcount
  refine execN_step (exec_scan_start hl hlive) ?_
  rw [execN_add hrun]
  have hread : exec (.uartPuts p tmo) (scanAt s n b) = .next ((scanAt s n 0).goto .l2) := by
    rw [exec_scanAt hadm, hend]
  refine execN_step hread ?_
  refine execN_step (exec_uartPuts_l2_end rfl rfl) ?_
  have hfull : exec (.uartPuts p tmo) (((scanAt s n 0).goto .l2).goto .l3) =
      .next ((((scanAt s n 0).goto .l2).goto .l3).goto .l4) := by
    rw [exec_uartPuts_l3 rfl]
    exact congrArg Host.Outcome.next (if_neg (Nat.ne_of_gt hn))
  exact execN_step hfull (execN_step (exec_uartPuts_l4 rfl) rfl)

/-- A string whose bytes reach the end of the address space is refused at its last byte. -/
theorem execN_scan_wraps {n : Nat} (hl : s.fg.label = .l0) (hlive : s.ueng.live = true) (hn : 0 < n)
    (hstr : ∀ k, k < n → s.admitted (p.toNat + k) = true ∧ memGet s.mem (p.toNat + k) ≠ 0)
    (haddr : p.toNat + n = 2 ^ s.cfg.addrW) (hcount : n < 2 ^ s.cfg.countW) :
    ∃ t, execN (2 * n + 1) (.uartPuts p tmo) s = .next t ∧ t.refused = some .bufferWraps := by
  obtain ⟨n, rfl⟩ := Nat.exists_eq_succ_of_ne_zero (Nat.ne_of_gt hn)
  obtain ⟨b, hrun⟩ := execN_scanAt (tmo := tmo) (b := s.fg.b) n (fun k hk => hstr k (Nat.lt_succ_of_lt hk)) (by omega)
    (by omega)
  obtain ⟨hadm, hb⟩ := hstr n (Nat.lt_succ_self n)
  have hwrap : exec (.uartPuts p tmo) ((scanAt s n (memGet s.mem (p.toNat + n))).goto .l2) =
      .next (((scanAt s n (memGet s.mem (p.toNat + n))).goto .l2).refuse .bufferWraps) :=
    exec_uartPuts_l2_wraps rfl hb (.inl haddr.ge)
  have hrun' : execN (2 * (n + 1) + 1) (.uartPuts p tmo) s =
      .next (((scanAt s n (memGet s.mem (p.toNat + n))).goto .l2).refuse .bufferWraps) := by
    refine execN_step (exec_scan_start hl hlive) ?_
    rw [Nat.mul_succ, execN_add hrun]
    exact execN_step (exec_scanAt hadm) (execN_step hwrap rfl)
  exact ⟨_, hrun', rfl⟩

end

/-- Settles O32: by induction on the string's length, two micro-steps to a byte. -/
theorem uartPutsScan : Obligations.UartPutsScan := fun _ _ _ _ hl hlive hn hstr =>
  ⟨execN_scan_ends hl hlive hn hstr, execN_scan_wraps hl hlive hn hstr⟩

/-! ### One call of a transmit handler (R192, R230)

A call writes its driver, its engine and the interrupt position, so its states are `s` with those three. -/

/-- The interrupt context at line `l` of a UART handler, over `s` but for the driver and the engine. -/
def uartCall (s : State) (u : Uart) (e : UartEngine) (l : IrqLabel) : State :=
  ((s.setUart u).setUeng e).irqGoto l

/-- The interrupt context at line `l` of an I2C handler, over `s` but for the driver and the engine. -/
def i2cCall (s : State) (d : I2c) (e : I2cEngine) (l : IrqLabel) : State :=
  ((s.setI2c d).setIeng e).irqGoto l

@[simp] theorem uartCall_uart (s : State) (u : Uart) (e : UartEngine) (l : IrqLabel) : (uartCall s u e l).uart = u := rfl

@[simp] theorem i2cCall_i2c (s : State) (d : I2c) (e : I2cEngine) (l : IrqLabel) : (i2cCall s d e l).i2c = d := rfl

section

variable {s : State} {u : Uart} {e : UartEngine}

theorem exec_uartTx_t0_of_ready (hl : s.irq.label = .t0) (hr : s.ueng.txReady = .written true) :
    exec .uartHandleTxIrq s = .next (uartCall s s.uart s.ueng .t1) := by
  rw [exec_uartTx_t0 hl, if_pos (isOne_of_eq hr)]
  rfl

theorem exec_uartTx_t1_to {n : Nat} (hn : (if 0 < u.txCount then u.txCount - 1 else u.txCount) = n) :
    exec .uartHandleTxIrq (uartCall s u e .t1) = .next (uartCall s { u with txCount := n } e .t2) := by
  rw [exec_uartTx_t1 rfl, ← hn]
  rfl

theorem exec_uartTx_t2_of_pos (hcount : 0 < u.txCount) :
    exec .uartHandleTxIrq (uartCall s u e .t2) = .next (uartCall s u e .t3) := by
  rw [exec_uartTx_t2 rfl]
  exact congrArg (fun l => Host.Outcome.next (uartCall s u e l)) (if_pos hcount)

theorem exec_uartTx_t2_of_zero (hcount : u.txCount = 0) :
    exec .uartHandleTxIrq (uartCall s u e .t2) = .next (uartCall s u e .t5) := by
  rw [exec_uartTx_t2 rfl]
  exact congrArg (fun l => Host.Outcome.next (uartCall s u e l)) (if_neg (Nat.not_lt.2 hcount.le))

theorem exec_uartTx_t3_of_empty (hadm : s.admitted u.txCursor = true) (hempty : e.txregFull = .written false) :
    exec .uartHandleTxIrq (uartCall s u e .t3) =
      .next (uartCall s u (uartFed (memGet s.mem u.txCursor) e) .t4) := by
  rw [exec_uartTx_t3 rfl, uartCall_uart, memRead_of_admitted (a := u.txCursor) (s := uartCall s u e .t3) _ hadm,
    writeUartTxbuf_of_empty (s := uartCall s u e .t3) hempty]
  rfl

theorem exec_uartTx_t4_of_fits (hfits : u.txCursor + 1 < 2 ^ s.cfg.addrW) :
    exec .uartHandleTxIrq (uartCall s u e .t4) =
      .next ((uartCall s { u with txCursor := u.txCursor + 1 } e .t4).irqReturn false) := by
  rw [exec_uartTx_t4 rfl, uartCall_uart, setTxCursorAfter_of_fits (p := u.txCursor) (s := uartCall s u e .t4) hfits]
  rfl

/-- A call of the UART transmit handler that feeds a byte. -/
theorem execN_uartTx_feeds (hl : s.irq.label = .t0) (hr : s.ueng.txReady = .written true)
    (hempty : s.ueng.txregFull = .written false) (hcount : 2 ≤ s.uart.txCount)
    (hadm : s.admitted s.uart.txCursor = true) (hfits : s.uart.txCursor + 1 < 2 ^ s.cfg.addrW) :
    execN 5 .uartHandleTxIrq s = .next { s with
      uart := { s.uart with txCount := s.uart.txCount - 1, txCursor := s.uart.txCursor + 1 },
      ueng := uartFed (memGet s.mem s.uart.txCursor) s.ueng, irq := { s.irq with label := .d2, wh := false } } := by
  refine execN_step (exec_uartTx_t0_of_ready hl hr) ?_
  refine execN_step (exec_uartTx_t1_to (if_pos (Nat.lt_of_lt_of_le Nat.zero_lt_two hcount))) ?_
  refine execN_step (exec_uartTx_t2_of_pos (Nat.sub_pos_of_lt hcount)) ?_
  refine execN_step (exec_uartTx_t3_of_empty hadm hempty) ?_
  exact execN_step (exec_uartTx_t4_of_fits hfits) rfl

/-- The last byte of a session is counted off, or a session with none left is found. -/
theorem txCount_after_last (hcount : u.txCount ≤ 1) :
    (if 0 < u.txCount then u.txCount - 1 else u.txCount) = 0 := by
  split_ifs <;> omega

theorem exec_uartTx_t5_at : exec .uartHandleTxIrq (uartCall s u e .t5) =
    .next (uartCall s { u with txDone := true } e .t6) := by
  rw [exec_uartTx_t5 rfl]
  rfl

theorem exec_uartTx_t6_at : exec .uartHandleTxIrq (uartCall s u e .t6) = .next (uartCall s u
    (if s.cfg.uartTxExhaust = .clearFlag then { e with txReady := .written false } else e) .t7) := by
  rw [exec_uartTx_t6 rfl]
  rfl

/-- A call of the UART transmit handler that completes the session. -/
theorem execN_uartTx_completes (hl : s.irq.label = .t0) (hr : s.ueng.txReady = .written true)
    (hcount : s.uart.txCount ≤ 1) :
    execN 6 .uartHandleTxIrq s = .next { s with
      uart := { s.uart with txCount := 0, txDone := true },
      ueng := if s.cfg.uartTxExhaust = .clearFlag then { s.ueng with txReady := .written false } else s.ueng,
      irq := { s.irq with label := .d2, wh := true } } := by
  refine execN_step (exec_uartTx_t0_of_ready hl hr) ?_
  refine execN_step (exec_uartTx_t1_to (txCount_after_last hcount)) ?_
  refine execN_step (exec_uartTx_t2_of_zero rfl) ?_
  refine execN_step exec_uartTx_t5_at ?_
  refine execN_step exec_uartTx_t6_at ?_
  exact execN_step (exec_uartTx_t7 rfl) rfl

end

section

variable {s : State} {d : I2c} {e : I2cEngine}

theorem exec_i2cTx_t0_of_ready (hl : s.irq.label = .t0) (hr : s.ieng.txReady = .written true) :
    exec .i2cHandleTxIrq s = .next (i2cCall s s.i2c s.ieng .t1) := by
  rw [exec_i2cTx_t0 hl, if_pos (isOne_of_eq hr)]
  rfl

theorem exec_i2cTx_t1_of_pos (hcount : 0 < d.count) :
    exec .i2cHandleTxIrq (i2cCall s d e .t1) = .next (i2cCall s d e .t2) := by
  rw [exec_i2cTx_t1 rfl]
  exact congrArg (fun l => Host.Outcome.next (i2cCall s d e l)) (if_pos hcount)

theorem exec_i2cTx_t1_of_zero (hcount : d.count = 0) :
    exec .i2cHandleTxIrq (i2cCall s d e .t1) = .next (i2cCall s d e .t5) := by
  rw [exec_i2cTx_t1 rfl]
  exact congrArg (fun l => Host.Outcome.next (i2cCall s d e l)) (if_neg (Nat.not_lt.2 hcount.le))

theorem exec_i2cTx_t2_of_empty (hadm : s.admitted d.cursor = true) (hempty : e.txregFull = .written false) :
    exec .i2cHandleTxIrq (i2cCall s d e .t2) = .next (i2cCall s d (i2cFed (memGet s.mem d.cursor) e) .t3) := by
  rw [exec_i2cTx_t2 rfl, i2cCall_i2c, memRead_of_admitted (a := d.cursor) (s := i2cCall s d e .t2) _ hadm,
    writeI2cTxbuf_of_empty (s := i2cCall s d e .t2) hempty]
  rfl

/-- Where the next address is in the address space, the cursor goes on to it. -/
theorem bumpI2cCursor_i2cCall (l l' : IrqLabel) (hfits : d.cursor + 1 < 2 ^ s.cfg.addrW) :
    (bumpI2cCursor (i2cCall s d e l)).irqGoto l' = i2cCall s { d with cursor := d.cursor + 1 } e l' := by
  rw [bumpI2cCursor_of_fits (s := i2cCall s d e l) hfits]
  rfl

theorem exec_i2cTx_t3_of_fits (hfits : d.cursor + 1 < 2 ^ s.cfg.addrW) :
    exec .i2cHandleTxIrq (i2cCall s d e .t3) = .next (i2cCall s { d with cursor := d.cursor + 1 } e .t4) := by
  rw [exec_i2cTx_t3 rfl, bumpI2cCursor_i2cCall _ _ hfits]

/-- A call of the I2C transmit handler that feeds a byte. -/
theorem execN_i2cTx_feeds (hl : s.irq.label = .t0) (hr : s.ieng.txReady = .written true)
    (hempty : s.ieng.txregFull = .written false) (hcount : 0 < s.i2c.count)
    (hadm : s.admitted s.i2c.cursor = true) (hfits : s.i2c.cursor + 1 < 2 ^ s.cfg.addrW) :
    execN 5 .i2cHandleTxIrq s = .next { s with
      i2c := { s.i2c with count := s.i2c.count - 1, cursor := s.i2c.cursor + 1 },
      ieng := i2cFed (memGet s.mem s.i2c.cursor) s.ieng, irq := { s.irq with label := .d2, wh := false } } := by
  refine execN_step (exec_i2cTx_t0_of_ready hl hr) ?_
  refine execN_step (exec_i2cTx_t1_of_pos hcount) ?_
  refine execN_step (exec_i2cTx_t2_of_empty hadm hempty) ?_
  refine execN_step (exec_i2cTx_t3_of_fits hfits) ?_
  exact execN_step (exec_i2cTx_t4 rfl) rfl

theorem exec_i2cTx_t5_at : exec .i2cHandleTxIrq (i2cCall s d e .t5) =
    .next (i2cCall s d { e with stopReq := .written true } .t6) := by
  rw [exec_i2cTx_t5 rfl]
  rfl

theorem exec_i2cTx_t6_at : exec .i2cHandleTxIrq (i2cCall s d e .t6) =
    .next (i2cCall s { d with done := true } e .t7) := by
  rw [exec_i2cTx_t6 rfl]
  rfl

theorem exec_i2cTx_t7_at : exec .i2cHandleTxIrq (i2cCall s d e .t7) = .next (i2cCall s d
    (if s.cfg.i2cTxExhaust = .clearFlag then { e with txReady := .written false } else e) .t8) := by
  rw [exec_i2cTx_t7 rfl]
  rfl

/-- A call of the I2C transmit handler that finds the count at 0. -/
theorem execN_i2cTx_exhausts (hl : s.irq.label = .t0) (hr : s.ieng.txReady = .written true) (hcount : s.i2c.count = 0) :
    execN 6 .i2cHandleTxIrq s = .next { s with
      i2c := { s.i2c with done := true },
      ieng := if s.cfg.i2cTxExhaust = .clearFlag
        then { s.ieng with stopReq := .written true, txReady := .written false }
        else { s.ieng with stopReq := .written true },
      irq := { s.irq with label := .d2, wh := true } } := by
  refine execN_step (exec_i2cTx_t0_of_ready hl hr) ?_
  refine execN_step (exec_i2cTx_t1_of_zero hcount) ?_
  refine execN_step exec_i2cTx_t5_at ?_
  refine execN_step exec_i2cTx_t6_at ?_
  refine execN_step exec_i2cTx_t7_at ?_
  exact execN_step (exec_i2cTx_t8 rfl) rfl

end

/-! ### One call of a receive handler (R193, R234) -/

section

variable {s : State} {u : Uart} {e : UartEngine} {v : Byte}

theorem exec_uartRx_q0_of_ready (hl : s.irq.label = .q0) (hr : s.ueng.rxReady = .written true) :
    exec .uartHandleRxIrq s = .next (uartCall s s.uart s.ueng .q1) := by
  rw [exec_uartRx_q0 hl, if_pos (isOne_of_eq hr)]
  rfl

theorem exec_uartRx_q1_of_written (hv : e.rxbuf = .written v) :
    exec .uartHandleRxIrq (uartCall s u e .q1) =
      .next (uartCall s { u with rxByte := v } { e with rxReady := .written false } .q2) := by
  rw [exec_uartRx_q1 rfl]
  exact congrArg Host.Outcome.next (readUartRxbuf_of_written _ hv)

theorem exec_uartRx_q2_at : exec .uartHandleRxIrq (uartCall s u e .q2) =
    .next (uartCall s { u with rxCount := 1 } e .q3) := by
  rw [exec_uartRx_q2 rfl]
  rfl

/-- A call of the UART receive handler on a received byte. -/
theorem execN_uartRx (hl : s.irq.label = .q0) (hr : s.ueng.rxReady = .written true) (hv : s.ueng.rxbuf = .written v) :
    execN 4 .uartHandleRxIrq s = .next { s with
      uart := { s.uart with rxByte := v, rxCount := 1 }, ueng := { s.ueng with rxReady := .written false },
      irq := { s.irq with label := .d2, wh := true } } := by
  refine execN_step (exec_uartRx_q0_of_ready hl hr) ?_
  refine execN_step (exec_uartRx_q1_of_written hv) ?_
  refine execN_step exec_uartRx_q2_at ?_
  exact execN_step (exec_uartRx_q3 rfl) rfl

end

section

variable {s : State} {d : I2c} {e : I2cEngine} {v : Byte}

theorem exec_i2cRx_n0_of_nack (hl : s.irq.label = .n0) (hn : s.ieng.nack = .written true) :
    exec .i2cHandleRxIrq s = .next (i2cCall s s.i2c s.ieng .n1) := by
  rw [exec_i2cRx_n0 hl, if_pos (isOne_of_eq hn)]
  rfl

theorem exec_i2cRx_n1_at : exec .i2cHandleRxIrq (i2cCall s d e .n1) =
    .next (i2cCall s d { e with nack := .written false } .n2) := by
  rw [exec_i2cRx_n1 rfl]
  rfl

theorem exec_i2cRx_n2_at : exec .i2cHandleRxIrq (i2cCall s d e .n2) =
    .next (i2cCall s { d with retries := d.retries + 1 } { e with startReq := .written true } .n3) := by
  rw [exec_i2cRx_n2 rfl]
  rfl

/-- A call of the I2C receive handler that retries a transfer whose address was not acknowledged (R234). -/
theorem execN_i2cRx_retries (hl : s.irq.label = .n0) (hn : s.ieng.nack = .written true) :
    execN 4 .i2cHandleRxIrq s = .next { s with
      i2c := { s.i2c with retries := s.i2c.retries + 1 },
      ieng := { s.ieng with nack := .written false, startReq := .written true },
      irq := { s.irq with label := .d2, wh := false } } := by
  refine execN_step (exec_i2cRx_n0_of_nack hl hn) ?_
  refine execN_step exec_i2cRx_n1_at ?_
  refine execN_step exec_i2cRx_n2_at ?_
  exact execN_step (exec_i2cRx_n3 rfl) rfl

end

/-- Settles O38: each call's lines in order. -/
theorem handlerCalls : Obligations.HandlerCalls := by
  intro s
  refine ⟨fun hl hr hempty => ⟨fun hcount hadm hfits => ?_, fun hcount => ?_⟩, fun v hl hr hv => ?_,
    fun hl hr hempty => ⟨fun hcount hadm hfits => ?_, fun hcount => ?_⟩, fun hl hn => ?_⟩
  · exact execN_uartTx_feeds hl hr hempty hcount hadm hfits
  · exact execN_uartTx_completes hl hr hcount
  · exact execN_uartRx hl hr hv
  · exact execN_i2cTx_feeds hl hr hempty hcount hadm hfits
  · exact execN_i2cTx_exhausts hl hr hcount
  · exact execN_i2cRx_retries hl hn

/-! ### One call of the I2C receive handler on a received byte (R232, R233, R235) -/

/-- The interrupt context at line `l` of the I2C receive handler from Q3 on, with the byte `v` read and the memory `m`. -/
def i2cRxCall (s : State) (d : I2c) (e : I2cEngine) (v : Byte) (m : List Host.Cell) (l : IrqLabel) : State :=
  (((s.setI2c d).setIeng e).setMem m).setIrq { s.irq with r := v, label := l }

section

variable {s : State} {d : I2c} {e : I2cEngine} {v : Byte} {m : List Host.Cell}

@[simp] theorem i2cRxCall_i2c (l : IrqLabel) : (i2cRxCall s d e v m l).i2c = d := rfl

theorem exec_i2cRx_n0_of_no_nack (hl : s.irq.label = .n0) (hn : s.ieng.nack ≠ .written true) :
    exec .i2cHandleRxIrq s = .next (i2cCall s s.i2c s.ieng .q0) := by
  rw [exec_i2cRx_n0 hl, isOne_of_ne hn]
  rfl

theorem exec_i2cRx_q0_of_ready (hr : e.rxReady = .written true) :
    exec .i2cHandleRxIrq (i2cCall s d e .q0) = .next (i2cCall s d e .q1) := by
  rw [exec_i2cRx_q0 rfl]
  exact congrArg Host.Outcome.next (if_pos (isOne_of_eq hr))

/-- The engine after a line that requests the STOP where `p` holds. -/
def stopWhere (p : Bool) (e : I2cEngine) : I2cEngine := if p then { e with stopReq := .written true } else e

@[simp] theorem stopWhere_rxReady (p : Bool) (e : I2cEngine) : (stopWhere p e).rxReady = e.rxReady := by
  cases p <;> rfl

@[simp] theorem stopWhere_rxbuf (p : Bool) (e : I2cEngine) : (stopWhere p e).rxbuf = e.rxbuf := by
  cases p <;> rfl

theorem exec_i2cRx_q1_at : exec .i2cHandleRxIrq (i2cCall s d e .q1) =
    .next (i2cCall s d (stopWhere (preStop s.cfg d.count) e) .q2) := by
  rw [exec_i2cRx_q1 rfl]
  rfl

theorem exec_i2cRx_q2_of_written (hv : e.rxbuf = .written v) : exec .i2cHandleRxIrq (i2cCall s d e .q2) =
    .next (i2cRxCall s d { e with rxReady := .written false } v s.mem .q3) := by
  rw [exec_i2cRx_q2 rfl, readI2cRxbuf_of_written (s := i2cCall s d e .q2) _ hv]
  rfl

theorem exec_i2cRx_q3_of_pos (hcount : 0 < d.count) :
    exec .i2cHandleRxIrq (i2cRxCall s d e v m .q3) = .next (i2cRxCall s d e v m .q4) := by
  rw [exec_i2cRx_q3 rfl]
  exact congrArg Host.Outcome.next (if_neg (Nat.ne_of_gt hcount))

theorem exec_i2cRx_q4_of_admitted (hadm : s.admitted d.cursor = true) :
    exec .i2cHandleRxIrq (i2cRxCall s d e v m .q4) = .next (i2cRxCall s d e v (memSet m d.cursor v) .q5) := by
  rw [exec_i2cRx_q4 rfl]
  exact congrArg Host.Outcome.next (memWrite_of_admitted (s := i2cRxCall s d e v m .q4) _ hadm)

theorem exec_i2cRx_q5_of_fits (hfits : d.cursor + 1 < 2 ^ s.cfg.addrW) :
    exec .i2cHandleRxIrq (i2cRxCall s d e v m .q5) =
      .next (i2cRxCall s { d with cursor := d.cursor + 1 } e v m .q6) := by
  rw [exec_i2cRx_q5 rfl, bumpI2cCursor_of_fits (s := i2cRxCall s d e v m .q5) hfits]
  rfl

theorem exec_i2cRx_q6_at : exec .i2cHandleRxIrq (i2cRxCall s d e v m .q6) =
    .next (i2cRxCall s { d with count := d.count - 1 } e v m .q7) := by
  rw [exec_i2cRx_q6 rfl]
  rfl

theorem exec_i2cRx_q7_at : exec .i2cHandleRxIrq (i2cRxCall s d e v m .q7) =
    .next (i2cRxCall s d (stopWhere (postStop s.cfg d.count) e) v m .q8) := by
  rw [exec_i2cRx_q7 rfl]
  rfl

theorem exec_i2cRx_q8_of_zero (hcount : d.count = 0) : exec .i2cHandleRxIrq (i2cRxCall s d e v m .q8) =
    .next ((i2cRxCall s { d with done := true } e v m .q8).irqReturn true) := by
  rw [exec_i2cRx_q8 rfl]
  exact congrArg Host.Outcome.next (if_pos hcount)

theorem exec_i2cRx_q8_of_ne_zero (hcount : d.count ≠ 0) : exec .i2cHandleRxIrq (i2cRxCall s d e v m .q8) =
    .next (i2cRxCall s d e v m .q9) := by
  rw [exec_i2cRx_q8 rfl]
  exact congrArg Host.Outcome.next (if_neg hcount)

/-- Up to Q2 a call requests the STOP where the policy asks for it before the read. -/
theorem execN_i2cRx_to_q2 (hl : s.irq.label = .n0) (hn : s.ieng.nack ≠ .written true)
    (hr : s.ieng.rxReady = .written true) :
    execN 3 .i2cHandleRxIrq s =
      .next (i2cCall s s.i2c (stopWhere (preStop s.cfg s.i2c.count) s.ieng) .q2) := by
  refine execN_step (exec_i2cRx_n0_of_no_nack hl hn) ?_
  refine execN_step (exec_i2cRx_q0_of_ready hr) ?_
  exact execN_step exec_i2cRx_q1_at rfl

/-- From Q2 the byte is read, stored at the cursor and counted off: Q8 follows. -/
theorem execN_i2cRx_to_q8 (hv : e.rxbuf = .written v) (hcount : 0 < d.count) (hadm : s.admitted d.cursor = true)
    (hfits : d.cursor + 1 < 2 ^ s.cfg.addrW) :
    execN 6 .i2cHandleRxIrq (i2cCall s d e .q2) =
      .next (i2cRxCall s { d with count := d.count - 1, cursor := d.cursor + 1 }
        (stopWhere (postStop s.cfg (d.count - 1)) { e with rxReady := .written false }) v
        (memSet s.mem d.cursor v) .q8) := by
  refine execN_step (exec_i2cRx_q2_of_written hv) ?_
  refine execN_step (exec_i2cRx_q3_of_pos hcount) ?_
  refine execN_step (exec_i2cRx_q4_of_admitted hadm) ?_
  refine execN_step (exec_i2cRx_q5_of_fits hfits) ?_
  refine execN_step exec_i2cRx_q6_at ?_
  exact execN_step exec_i2cRx_q7_at rfl

/-- From Q8 the call returns: after the last byte with the completion flag set and a wake requested. -/
theorem execN_i2cRx_from_q8 {n : Nat} (hn : d.count = n) :
    execN (if n = 0 then 1 else 2) .i2cHandleRxIrq (i2cRxCall s d e v m .q8) =
      .next ((i2cRxCall s { d with done := d.done || decide (n = 0) } e v m .q8).irqReturn (decide (n = 0))) := by
  by_cases hcount : n = 0
  · rw [if_pos hcount, decide_eq_true hcount, Bool.or_true]
    exact execN_step (exec_i2cRx_q8_of_zero (hn.trans hcount)) rfl
  · rw [if_neg hcount, decide_eq_false hcount, Bool.or_false]
    exact execN_step (exec_i2cRx_q8_of_ne_zero (hn ▸ hcount)) (execN_step (exec_i2cRx_q9 rfl) rfl)

/-- No line of the receive handler takes a STOP request back. -/
theorem IrqStep.i2cRx_keeps_stopReq {t : State} (h : IrqStep s .i2cHandleRxIrq t)
    (hstop : s.ieng.stopReq = .written true) : t.ieng.stopReq = .written true := by
  cases h
  case i2cRxPreStops | i2cRxPostStops => rfl
  all_goals exact hstop

theorem execN_i2cRx_keeps_stopReq {n : Nat} {t : State} (h : execN n .i2cHandleRxIrq s = .next t)
    (hstop : s.ieng.stopReq = .written true) : t.ieng.stopReq = .written true := by
  induction n generalizing s with
  | zero =>
    cases h
    exact hstop
  | succ n ih =>
    obtain ⟨u, hu⟩ := exec_next .i2cHandleRxIrq s
    rw [execN, hu] at h
    exact ih h ((irqStep_of_exec rfl hu).i2cRx_keeps_stopReq hstop)

/-- Before its read a call leaves the received byte waiting. -/
theorem execN_i2cRx_before_read {n : Nat} {t : State} (hl : s.irq.label = .n0) (hn : s.ieng.nack ≠ .written true)
    (hr : s.ieng.rxReady = .written true) (hlt : n < 3) (h : execN n .i2cHandleRxIrq s = .next t) :
    t.ieng.rxReady = .written true := by
  match n, hlt with
  | 0, _ =>
    cases h
    exact hr
  | 1, _ =>
    cases (execN_step (exec_i2cRx_n0_of_no_nack hl hn) rfl).symm.trans h
    exact hr
  | 2, _ =>
    cases (execN_step (exec_i2cRx_n0_of_no_nack hl hn) (execN_step (exec_i2cRx_q0_of_ready hr) rfl)).symm.trans h
    exact hr

end

/-- Settles O39: the lines N0 to Q2, Q2 to Q8, and the return; a STOP requested at Q1 stays requested. -/
theorem i2cReceiveCall : Obligations.I2cReceiveCall := by
  intro s v hl hn hr hv hcount hadm hfits hwf
  have hstart := execN_i2cRx_to_q2 hl hn hr
  refine ⟨?call, fun hpolicy n u _ hrun hread => ?stop⟩
  case call =>
    have hlast : s.i2c.count - 1 = 0 ↔ s.i2c.count = 1 := by omega
    have hlen : (if s.i2c.count = 1 then 10 else 11) = 3 + (6 + if s.i2c.count - 1 = 0 then 1 else 2) := by
      simp only [hlast]
      split_ifs <;> rfl
    rw [hlen, execN_add hstart, execN_add (execN_i2cRx_to_q8 (by simpa using hv) hcount hadm hfits)]
    refine ⟨_, execN_i2cRx_from_q8 rfl, rfl, ?_, ?_, fun a => ?_⟩
    · simp [hlast]
    · simp [hlast]
    · exact (memGet_memSet _ _ _ _ hwf).trans (if_congr eq_comm rfl rfl)
  case stop =>
    rcases Nat.lt_or_ge n 3 with hlt | hge
    · cases (execN_i2cRx_before_read hl hn hr hlt hrun).symm.trans hread
    · obtain ⟨m, rfl⟩ := Nat.exists_eq_add_of_le hge
      rw [execN_add hstart, (preStop_iff _ _).2 hpolicy] at hrun
      exact execN_i2cRx_keeps_stopReq hrun rfl

end Sys2Proof.Machine
end

section
/-! PROOFS. The software UART when nothing delays it: the waveform of SWU_PUTC and the samples of SWU_GETC (R155, R160). -/

namespace Sys2Proof.Machine

/-! ### Undelayed runs -/

section

variable {i : Instr} {level : Nat → Bool} {s t : State}

theorem undelayed_micro {n : Nat} (m : Nat) (h : exec i s = .next t) (hne : t.fg.label ≠ s.fg.label) :
    undelayed i level (m + 1) (s, n) = undelayed i level m (t, n) := by
  have hts : t ≠ s := fun heq => hne (by rw [heq])
  rw [undelayed, h]
  simp only [if_neg hts]

theorem undelayed_counter {n : Nat} (m : Nat) (h : exec i s = .next s) :
    undelayed i level (m + 1) (s, n) = undelayed i level m (lineStep (level (n + 1)) (ctrStep s), n + 1) := by
  rw [undelayed, h]
  simp only [if_true]

end

/-- The receive line after `n` counter steps, `rx` at the start. -/
def rxAfter (level : Nat → Bool) (rx : Bool) : Nat → Bool
  | 0 => rx
  | n + 1 => level (n + 1)

/-- A state of an undelayed run from `s`, `n` counter steps on: it differs from `s` in the driver, the foreground, the
lines, the trace and the counter. -/
def swuRun (level : Nat → Bool) (s : State) (n : Nat) (x : Swu) (f : Fg) (tx : Bool) (tr : List Event) : State :=
  { s with
    swu := x, fg := f, line := ⟨tx, rxAfter level s.line.rx n⟩, trace := tr, ctr := (s.ctr + n) % 2 ^ s.cfg.ctrW }

section

variable {level : Nat → Bool} {s : State} {n m : Nat} {x : Swu} {f : Fg} {tx : Bool} {tr : List Event}

theorem ctrStep_swuRun : lineStep (level (n + 1)) (ctrStep (swuRun level s n x f tx tr)) =
    swuRun level s (n + 1) x f tx tr := by
  have hctr : ((s.ctr + n) % 2 ^ s.cfg.ctrW + 1) % 2 ^ s.cfg.ctrW = (s.ctr + (n + 1)) % 2 ^ s.cfg.ctrW := by
    rw [Nat.mod_add_mod, Nat.add_assoc]
  rw [swuRun, swuRun, ← hctr]
  rfl

/-! ### A hold until a deadline (R151, R152) -/

theorem reached_deadline {c : Params} (hc : c.ctrCompare = .wrapAware) (a : Nat) : reached c a a = true := by
  rw [reached_wrapAware_iff hc, sub_self, Int.zero_emod]
  positivity

/-- A deadline `d` ticks ahead, at most half the counter's range, is not yet reached. -/
theorem not_reached_before {c : Params} (hc : c.ctrCompare = .wrapAware) (hw : 2 ≤ c.ctrW) {d : Nat} (hd : 0 < d)
    (hhalf : d < 2 ^ (c.ctrW - 1)) (a : Nat) : reached c (a % 2 ^ c.ctrW) ((a + d) % 2 ^ c.ctrW) = false := by
  have hpow : (2 : Int) ^ c.ctrW = 2 * 2 ^ (c.ctrW - 1) := by
    rw [← pow_succ', Nat.sub_add_cancel (by omega)]
  have hhalf' : (d : Int) < 2 ^ (c.ctrW - 1) := by exact_mod_cast hhalf
  have hdist : (((a % 2 ^ c.ctrW : Nat) : Int) - ((a + d) % 2 ^ c.ctrW : Nat)) % 2 ^ c.ctrW = 2 ^ c.ctrW - d := by
    push_cast
    rw [Int.emod_sub_emod, Int.sub_emod_emod, sub_add_cancel_left, ← Int.add_emod_right, neg_add_eq_sub,
      Int.emod_eq_of_lt (by omega) (by omega)]
  rw [← Bool.not_eq_true, reached_wrapAware_iff hc, hdist]
  omega

theorem goto_of_fg {t : State} {f : Fg} (h : t.fg = f) (l : Label) : t.goto l = t.setFg { f with label := l } := by
  rw [← h]
  rfl

/-- A hold line of an operation, with `d` ticks to its deadline: `d` counter steps, and it goes on. -/
theorem undelayed_hold {i : Instr} {f' : Fg} {d : Nat}
    (hexec : ∀ t : State, t.fg = f → exec i t = .next (holdDeadline t (t.setFg f'))) (hne : f'.label ≠ f.label)
    (hc : s.cfg.ctrCompare = .wrapAware) (hw : 2 ≤ s.cfg.ctrW) (hhalf : d < 2 ^ (s.cfg.ctrW - 1))
    (hdl : x.dl = .written ((s.ctr + (n + d)) % 2 ^ s.cfg.ctrW)) :
    undelayed i level (m + 1 + d) (swuRun level s n x f tx tr, n) =
      undelayed i level m (swuRun level s (n + d) x f' tx tr, n + d) := by
  induction d generalizing n with
  | zero =>
    refine undelayed_micro m ?_ hne
    exact (hexec (swuRun level s n x f tx tr) rfl).trans
      (congrArg Host.Outcome.next (holdDeadline_of_reached _ hdl (reached_deadline hc _)))
  | succ d ih =>
    have hheld : exec i (swuRun level s n x f tx tr) = .next (swuRun level s n x f tx tr) := by
      refine (hexec _ rfl).trans (congrArg Host.Outcome.next (holdDeadline_of_not_reached _ hdl ?_))
      rw [← Nat.add_assoc]
      exact not_reached_before hc hw (Nat.succ_pos d) hhalf _
    rw [← Nat.add_assoc, undelayed_counter _ hheld, ctrStep_swuRun, ih (by omega) (by rw [hdl]; ac_rfl),
      Nat.add_right_comm, Nat.add_assoc]

end

/-! ### The waveform of SWU_PUTC (R155) -/

/-- The level of drive `k`: the start bit, the byte's bits from the lowest, the stop bit. -/
def putcLevel (b : Byte) (k : Nat) : Bool := if k = 0 then false else if k = 9 then true else b.getLsbD (k - 1)

/-- The first `k` drives of a byte that starts in `s`, one every bit time. -/
def putcDrives (b : Byte) (s : State) (k : Nat) : List Event :=
  (List.range k).map fun j => .txLine ((s.ctr + j * s.cfg.bitTime) % 2 ^ s.cfg.ctrW) (putcLevel b j)

theorem putcDrives_succ (b : Byte) (s : State) (k : Nat) : putcDrives b s (k + 1) =
    putcDrives b s k ++ [.txLine ((s.ctr + k * s.cfg.bitTime) % 2 ^ s.cfg.ctrW) (putcLevel b k)] := by
  simp [putcDrives, List.range_succ]

/-- The driver with drive `k` held: the deadline of the next one, what is left of the byte, and the index. -/
def putcSwu (b : Byte) (s : State) (k : Nat) : Swu :=
  { s.swu with
    dl := .written ((s.ctr + (k + 1) * s.cfg.bitTime) % 2 ^ s.cfg.ctrW), sh := .written (b >>> k), i := .written k }

/-- The state at line `l`, with drive `k` held until the next drive's deadline. -/
def putcHeld (b : Byte) (level : Nat → Bool) (s : State) (k : Nat) (l : Label) : State :=
  swuRun level s ((k + 1) * s.cfg.bitTime) (putcSwu b s k) { s.fg with label := l } (putcLevel b k)
    (s.trace ++ putcDrives b s (k + 1))

section

variable {b : Byte} {level : Nat → Bool} {s : State}

/-- A deadline `d` ticks after counter step `n`. -/
theorem deadline_next (s : State) (n d : Nat) :
    ((s.ctr + n) % 2 ^ s.cfg.ctrW + d) % 2 ^ s.cfg.ctrW = (s.ctr + (n + d)) % 2 ^ s.cfg.ctrW := by
  rw [Nat.mod_add_mod, Nat.add_assoc]

section

variable {n m : Nat} {x : Swu} {f : Fg} {tx : Bool} {tr : List Event}

theorem exec_swuPutc_drives_start : exec (.swuPutc b) (swuRun level s n x { f with label := .l1 } tx tr) =
    .next (swuRun level s n x { f with label := .l2 } false
      (tr ++ [.txLine ((s.ctr + n) % 2 ^ s.cfg.ctrW) false])) := by
  rw [exec_swuPutc_l1 b rfl]
  rfl

theorem exec_swuPutc_first_deadline (hdl : x.dl = .written ((s.ctr + n) % 2 ^ s.cfg.ctrW)) :
    exec (.swuPutc b) (swuRun level s n x { f with label := .l2 } tx tr) =
      .next (swuRun level s n
        { x with dl := .written ((s.ctr + (n + s.cfg.bitTime)) % 2 ^ s.cfg.ctrW), i := .written 0 }
        { f with label := .l3 } tx tr) := by
  rw [← deadline_next, exec_swuPutc_l2 b rfl hdl]
  rfl

theorem exec_swuPutc_drives_bit {sh : Byte} (hsh : x.sh = .written sh) :
    exec (.swuPutc b) (swuRun level s n x { f with label := .l4 } tx tr) =
      .next (swuRun level s n { x with sh := .written (sh >>> 1) } { f with label := .l5 } (sh.getLsbD 0)
        (tr ++ [.txLine ((s.ctr + n) % 2 ^ s.cfg.ctrW) (sh.getLsbD 0)])) := by
  rw [exec_swuPutc_l4 b rfl hsh]
  rfl

theorem exec_swuPutc_next_deadline {i : Nat} (hdl : x.dl = .written ((s.ctr + n) % 2 ^ s.cfg.ctrW))
    (hi : x.i = .written i) :
    exec (.swuPutc b) (swuRun level s n x { f with label := .l5 } tx tr) =
      .next (swuRun level s n
        { x with dl := .written ((s.ctr + (n + s.cfg.bitTime)) % 2 ^ s.cfg.ctrW), i := .written (i + 1) }
        { f with label := .l6 } tx tr) := by
  rw [← deadline_next, exec_swuPutc_l5 b rfl hdl hi]
  rfl

theorem exec_swuPutc_loops {i : Nat} (hi : x.i = .written i) :
    exec (.swuPutc b) (swuRun level s n x { f with label := .l7 } tx tr) =
      .next (swuRun level s n x { f with label := if i < 8 then .l4 else .l8 } tx tr) := by
  rw [exec_swuPutc_l7 b rfl hi]
  rfl

theorem exec_swuPutc_holds_start (t : State) (ht : t.fg = { f with label := .l3 }) :
    exec (.swuPutc b) t = .next (holdDeadline t (t.setFg { f with label := .l4 })) := by
  rw [exec_swuPutc_l3 b (ht ▸ rfl), goto_of_fg ht]

theorem exec_swuPutc_holds_bit (t : State) (ht : t.fg = { f with label := .l6 }) :
    exec (.swuPutc b) t = .next (holdDeadline t (t.setFg { f with label := .l7 })) := by
  rw [exec_swuPutc_l6 b (ht ▸ rfl), goto_of_fg ht]

theorem exec_swuPutc_holds_stop (t : State) (ht : t.fg = { f with label := .l10 }) :
    exec (.swuPutc b) t = .next (holdDeadline t (t.setFg { f with k := f.k + 1, label := .l0 })) := by
  rw [exec_swuPutc_l10 b (ht ▸ rfl), State.done, ht]
  rfl

theorem exec_swuPutc_drives_stop : exec (.swuPutc b) (swuRun level s n x { f with label := .l8 } tx tr) =
    .next (swuRun level s n x { f with label := .l9 } true
      (tr ++ [.txLine ((s.ctr + n) % 2 ^ s.cfg.ctrW) true])) := by
  rw [exec_swuPutc_l8 b rfl]
  rfl

theorem exec_swuPutc_last_deadline (hdl : x.dl = .written ((s.ctr + n) % 2 ^ s.cfg.ctrW)) :
    exec (.swuPutc b) (swuRun level s n x { f with label := .l9 } tx tr) =
      .next (swuRun level s n { x with dl := .written ((s.ctr + (n + s.cfg.bitTime)) % 2 ^ s.cfg.ctrW) }
        { f with label := .l10 } tx tr) := by
  rw [← deadline_next, exec_swuPutc_l9 b rfl hdl]
  rfl

end

/-- What R155 asks of the configuration: the deadlines are compared with wrap, and are less than half the range ahead. -/
structure BitTimed (c : Params) : Prop where
  wraps : c.ctrCompare = .wrapAware
  width : 2 ≤ c.ctrW
  bitTime : c.bitTime < 2 ^ (c.ctrW - 1)

/-- The start bit: its drive, and its hold. -/
theorem undelayed_putc_start (m : Nat) (hl : s.fg.label = .l0) (hcfg : BitTimed s.cfg) (hctr : s.ctr < 2 ^ s.cfg.ctrW) :
    undelayed (.swuPutc b) level (m + 4 + s.cfg.bitTime) (s, 0) =
      undelayed (.swuPutc b) level m (putcHeld b level s 0 .l4, (0 + 1) * s.cfg.bitTime) := by
  have hstart : exec (.swuPutc b) s =
      .next (swuRun level s 0 { s.swu with dl := .written ((s.ctr + 0) % 2 ^ s.cfg.ctrW), sh := .written b }
        { s.fg with label := .l1 } s.line.tx s.trace) := by
    rw [exec_swuPutc_l0 b hl, swuRun, Nat.add_zero, Nat.mod_eq_of_lt hctr]
    rfl
  have hfuel : m + 4 + s.cfg.bitTime = m + 1 + s.cfg.bitTime + 1 + 1 + 1 := by omega
  rw [hfuel, undelayed_micro _ hstart (hl ▸ Label.noConfusion),
    undelayed_micro _ exec_swuPutc_drives_start Label.noConfusion,
    undelayed_micro _ (exec_swuPutc_first_deadline rfl) Label.noConfusion,
    undelayed_hold exec_swuPutc_holds_start Label.noConfusion hcfg.wraps hcfg.width hcfg.bitTime rfl]
  have htrace : s.trace ++ [.txLine ((s.ctr + 0) % 2 ^ s.cfg.ctrW) false] = s.trace ++ putcDrives b s (0 + 1) := by
    simp [putcDrives, putcLevel]
  have hticks : 0 + s.cfg.bitTime = (0 + 1) * s.cfg.bitTime := by omega
  have hshift : b = b >>> 0 := (BitVec.ushiftRight_zero b).symm
  rw [htrace, hticks, putcHeld, putcSwu, ← hshift]
  rfl

/-- A data bit: drive `k + 1`, and its hold. -/
theorem undelayed_putc_bit (m : Nat) {k : Nat} (hk : k < 8) (hcfg : BitTimed s.cfg) :
    undelayed (.swuPutc b) level (m + 4 + s.cfg.bitTime) (putcHeld b level s k .l4, (k + 1) * s.cfg.bitTime) =
      undelayed (.swuPutc b) level m
        (putcHeld b level s (k + 1) (if k + 1 < 8 then .l4 else .l8), (k + 1 + 1) * s.cfg.bitTime) := by
  have hfuel : m + 4 + s.cfg.bitTime = m + 1 + 1 + s.cfg.bitTime + 1 + 1 := by omega
  have hlevel : (b >>> k).getLsbD 0 = putcLevel b (k + 1) := by
    rw [putcLevel, if_neg (Nat.succ_ne_zero k), if_neg (by omega)]
    simp
  have hshift : b >>> k >>> 1 = b >>> (k + 1) := (BitVec.shiftRight_add b k 1).symm
  rw [hfuel, putcHeld, undelayed_micro _ (exec_swuPutc_drives_bit rfl) Label.noConfusion,
    undelayed_micro _ (exec_swuPutc_next_deadline rfl rfl) Label.noConfusion,
    undelayed_hold exec_swuPutc_holds_bit Label.noConfusion hcfg.wraps hcfg.width hcfg.bitTime rfl]
  rw [undelayed_micro _ (exec_swuPutc_loops rfl) (by split_ifs <;> exact Label.noConfusion), hlevel, hshift,
    ← Nat.succ_mul, List.append_assoc, ← putcDrives_succ]
  rfl

/-- All the data bits, from the held start bit. -/
theorem undelayed_putc_bits (m : Nat) {k : Nat} (hk : k ≤ 8) (hcfg : BitTimed s.cfg) :
    undelayed (.swuPutc b) level (m + k * (4 + s.cfg.bitTime)) (putcHeld b level s 0 .l4, (0 + 1) * s.cfg.bitTime) =
      undelayed (.swuPutc b) level m
        (putcHeld b level s k (if k < 8 then .l4 else .l8), (k + 1) * s.cfg.bitTime) := by
  induction k generalizing m with
  | zero => simp
  | succ k ih =>
    have hfuel : m + (k + 1) * (4 + s.cfg.bitTime) = m + 4 + s.cfg.bitTime + k * (4 + s.cfg.bitTime) := by ring
    rw [hfuel, ih _ (by omega), if_pos (by omega), undelayed_putc_bit m (by omega) hcfg]

/-- The stop bit: its drive, its hold, and the end of the operation. -/
theorem undelayed_putc_stop (hcfg : BitTimed s.cfg) :
    undelayed (.swuPutc b) level (0 + 1 + s.cfg.bitTime + 1 + 1) (putcHeld b level s 8 .l8, (8 + 1) * s.cfg.bitTime) =
      (swuRun level s ((9 + 1) * s.cfg.bitTime)
        { putcSwu b s 8 with dl := .written ((s.ctr + (9 + 1) * s.cfg.bitTime) % 2 ^ s.cfg.ctrW) }
        { s.fg with k := s.fg.k + 1, label := .l0 } true (s.trace ++ putcDrives b s 10), (9 + 1) * s.cfg.bitTime) := by
  rw [putcHeld, undelayed_micro _ exec_swuPutc_drives_stop Label.noConfusion,
    undelayed_micro _ (exec_swuPutc_last_deadline rfl) Label.noConfusion,
    undelayed_hold exec_swuPutc_holds_stop Label.noConfusion hcfg.wraps hcfg.width hcfg.bitTime rfl,
    ← Nat.succ_mul, putcDrives_succ b s 9, ← List.append_assoc]
  rfl

/-- Settles O24: the start bit, the eight data bits by induction, and the stop bit. -/
theorem putcWaveform : Obligations.PutcWaveform := by
  intro b s level hl hwraps hwidth _ hhalf hctr
  have hcfg : BitTimed s.cfg := ⟨hwraps, hwidth, hhalf⟩
  have hfuel : 39 + 10 * s.cfg.bitTime =
      0 + 1 + s.cfg.bitTime + 1 + 1 + 8 * (4 + s.cfg.bitTime) + 4 + s.cfg.bitTime := by ring
  rw [hfuel, undelayed_putc_start _ hl hcfg hctr, undelayed_putc_bits _ le_rfl hcfg, if_neg (lt_irrefl 8),
    undelayed_putc_stop hcfg]
  exact ⟨_, rfl, rfl, rfl, rfl, by rw [← hl]; rfl⟩

end

end Sys2Proof.Machine
end

section
/-! PROOFS. The samples of SWU_GETC when nothing delays it (R157, R158, R160). -/

namespace Sys2Proof.Machine

/-! ### The byte of the samples -/

/-- The byte whose first `k` bits are `f 0`, `f 1`, ..., and whose others are 0. -/
def sampledByte (f : Nat → Bool) : Nat → Byte
  | 0 => 0
  | k + 1 => orBit (sampledByte f k) (f k) k

theorem getLsbD_orBit (acc : Byte) (v : Bool) {i j : Nat} (hj : j < 8) :
    (orBit acc v i).getLsbD j = (acc.getLsbD j || (decide (j = i) && v)) := by
  rcases Nat.lt_trichotomy j i with h | h | h
  · simp [orBit, hj, h, h.ne]
  · subst h
    simp [orBit, hj]
  · have hne : j - i ≠ 0 := by omega
    simp [orBit, hj, h.ne', hne]

theorem getLsbD_sampledByte (f : Nat → Bool) (k : Nat) {j : Nat} (hj : j < 8) :
    (sampledByte f k).getLsbD j = (decide (j < k) && f j) := by
  induction k with
  | zero => simp [sampledByte]
  | succ k ih =>
    rw [sampledByte, getLsbD_orBit _ _ hj, ih]
    rcases Nat.lt_trichotomy j k with h | h | h
    · simp [h, h.ne, Nat.lt_succ_of_lt h]
    · subst h
      simp
    · simp [h.ne', Nat.not_lt.2 h.le, Nat.not_lt.2 (Nat.succ_le_of_lt h)]

/-! ### The lines on the states of an undelayed run -/

section

variable {level : Nat → Bool} {s : State} {n m : Nat} {x : Swu} {f : Fg} {v tx : Bool} {tr : List Event}

theorem exec_swuGetc_starts (hl : s.fg.label = .l0) (hrx : s.line.rx = false) (hctr : s.ctr < 2 ^ s.cfg.ctrW) :
    exec .swuGetc s = .next (swuRun level s 0 s.swu { s.fg with s := s.fg.s, label := .l1 } s.line.tx s.trace) := by
  rw [exec_swuGetc_l0 hl, hrx, swuRun, Nat.add_zero, Nat.mod_eq_of_lt hctr]
  rfl

theorem exec_swuGetc_first_deadline : exec .swuGetc (swuRun level s n x { f with s := v, label := .l1 } tx tr) =
    .next (swuRun level s n
      { x with dl := .written ((s.ctr + (n + s.cfg.rxStartDelay)) % 2 ^ s.cfg.ctrW), acc := .written 0, i := .written 0 }
      { f with s := v, label := .l2 } tx tr) := by
  rw [← deadline_next, exec_swuGetc_l1 rfl]
  rfl

theorem exec_swuGetc_bit_deadline (hdl : x.dl = .written ((s.ctr + n) % 2 ^ s.cfg.ctrW)) :
    exec .swuGetc (swuRun level s n x { f with s := v, label := .l3 } tx tr) =
      .next (swuRun level s n { x with dl := .written ((s.ctr + (n + s.cfg.bitTime)) % 2 ^ s.cfg.ctrW) }
        { f with s := v, label := .l4 } tx tr) := by
  rw [← deadline_next, exec_swuGetc_l3 rfl hdl]
  rfl

theorem exec_swuGetc_samples {acc : Byte} {i : Nat} (hacc : x.acc = .written acc) (hi : x.i = .written i) (hn : 0 < n) :
    exec .swuGetc (swuRun level s n x { f with s := v, label := .l5 } tx tr) =
      .next (swuRun level s n { x with acc := .written (orBit acc (level n) i), i := .written (i + 1) }
        { f with s := level n, label := .l6 } tx (tr ++ [.rxSample ((s.ctr + n) % 2 ^ s.cfg.ctrW) (level n)])) := by
  obtain ⟨n, rfl⟩ := Nat.exists_eq_succ_of_ne_zero hn.ne'
  rw [exec_swuGetc_l5 rfl hacc hi]
  rfl

theorem exec_swuGetc_loops {i : Nat} (hi : x.i = .written i) :
    exec .swuGetc (swuRun level s n x { f with s := v, label := .l6 } tx tr) =
      .next (swuRun level s n x { f with s := v, label := if i < 8 then .l3 else .l7 } tx tr) := by
  rw [exec_swuGetc_l6 rfl hi]
  rfl

theorem exec_swuGetc_stop_deadline (hdl : x.dl = .written ((s.ctr + n) % 2 ^ s.cfg.ctrW)) :
    exec .swuGetc (swuRun level s n x { f with s := v, label := .l7 } tx tr) =
      .next (swuRun level s n { x with dl := .written ((s.ctr + (n + s.cfg.bitTime)) % 2 ^ s.cfg.ctrW) }
        { f with s := v, label := .l8 } tx tr) := by
  rw [← deadline_next, exec_swuGetc_l7 rfl hdl]
  rfl

theorem exec_swuGetc_samples_stop (hn : 0 < n) : exec .swuGetc (swuRun level s n x { f with s := v, label := .l9 } tx tr) =
    .next (swuRun level s n { x with framingError := x.framingError || !level n }
      { f with s := level n, label := .l10 } tx (tr ++ [.rxSample ((s.ctr + n) % 2 ^ s.cfg.ctrW) (level n)])) := by
  obtain ⟨n, rfl⟩ := Nat.exists_eq_succ_of_ne_zero hn.ne'
  rw [exec_swuGetc_l9 rfl]
  rfl

theorem exec_swuGetc_returns {acc : Byte} (hacc : x.acc = .written acc) :
    exec .swuGetc (swuRun level s n x { f with s := v, label := .l10 } tx tr) =
      .next (swuRun level s n { x with rxAvailable := true }
        { f with s := v, ret := .written acc, k := f.k + 1, label := .l0 } tx tr) := by
  rw [exec_swuGetc_l10 rfl hacc]
  rfl

theorem exec_swuGetc_holds_delay (t : State) (ht : t.fg = { f with s := v, label := .l2 }) :
    exec .swuGetc t = .next (holdDeadline t (t.setFg { f with s := v, label := .l3 })) := by
  rw [exec_swuGetc_l2 (ht ▸ rfl), goto_of_fg ht]

theorem exec_swuGetc_holds_bit (t : State) (ht : t.fg = { f with s := v, label := .l4 }) :
    exec .swuGetc t = .next (holdDeadline t (t.setFg { f with s := v, label := .l5 })) := by
  rw [exec_swuGetc_l4 (ht ▸ rfl), goto_of_fg ht]

theorem exec_swuGetc_holds_stop (t : State) (ht : t.fg = { f with s := v, label := .l8 }) :
    exec .swuGetc t = .next (holdDeadline t (t.setFg { f with s := v, label := .l9 })) := by
  rw [exec_swuGetc_l8 (ht ▸ rfl), goto_of_fg ht]

end

/-! ### The samples of SWU_GETC (R160) -/

/-- The counter steps from the start edge to sample `k`; sample 0 is the end of the start delay. -/
def sampleTicks (c : Params) (k : Nat) : Nat := c.rxStartDelay + k * c.bitTime

theorem sampleTicks_succ (c : Params) (k : Nat) : sampleTicks c k + c.bitTime = sampleTicks c (k + 1) := by
  rw [sampleTicks, sampleTicks, Nat.succ_mul, Nat.add_assoc]

/-- The first `k` samples of a byte whose start edge is seen in `s`. -/
def getcTrace (level : Nat → Bool) (s : State) (k : Nat) : List Event :=
  (List.range k).map fun j =>
    .rxSample ((s.ctr + sampleTicks s.cfg (j + 1)) % 2 ^ s.cfg.ctrW) (level (sampleTicks s.cfg (j + 1)))

theorem getcTrace_succ (level : Nat → Bool) (s : State) (k : Nat) : getcTrace level s (k + 1) =
    getcTrace level s k ++
      [.rxSample ((s.ctr + sampleTicks s.cfg (k + 1)) % 2 ^ s.cfg.ctrW) (level (sampleTicks s.cfg (k + 1)))] := by
  simp [getcTrace, List.range_succ]

/-- The byte of the first `k` samples. -/
def getcByte (level : Nat → Bool) (c : Params) (k : Nat) : Byte :=
  sampledByte (fun j => level (sampleTicks c (j + 1))) k

/-- The driver after sample `k`. -/
def getcSwu (level : Nat → Bool) (s : State) (k : Nat) : Swu :=
  { s.swu with
    dl := .written ((s.ctr + sampleTicks s.cfg k) % 2 ^ s.cfg.ctrW), acc := .written (getcByte level s.cfg k),
    i := .written k }

/-- The state at line `l` after sample `k`, with `v` the level last sampled. -/
def getcSampled (level : Nat → Bool) (s : State) (k : Nat) (v : Bool) (l : Label) : State :=
  swuRun level s (sampleTicks s.cfg k) (getcSwu level s k) { s.fg with s := v, label := l } s.line.tx
    (s.trace ++ getcTrace level s k)

section

variable {level : Nat → Bool} {s : State}

theorem sampleTicks_pos {c : Params} (hpos : 0 < c.bitTime) (k : Nat) : 0 < sampleTicks c (k + 1) := by
  rw [← sampleTicks_succ]
  omega

/-- The start edge, and the start delay. -/
theorem undelayed_getc_start (m : Nat) (hl : s.fg.label = .l0) (hrx : s.line.rx = false) (hcfg : BitTimed s.cfg)
    (hdelay : s.cfg.rxStartDelay < 2 ^ (s.cfg.ctrW - 1)) (hctr : s.ctr < 2 ^ s.cfg.ctrW) :
    undelayed .swuGetc level (m + 1 + s.cfg.rxStartDelay + 1 + 1) (s, 0) =
      undelayed .swuGetc level m (getcSampled level s 0 s.fg.s .l3, sampleTicks s.cfg 0) := by
  have hticks : 0 + s.cfg.rxStartDelay = sampleTicks s.cfg 0 := by simp [sampleTicks]
  have htrace : s.trace ++ getcTrace level s 0 = s.trace := List.append_nil _
  have hne : Label.l1 ≠ s.fg.label := hl ▸ Label.noConfusion
  rw [undelayed_micro _ (exec_swuGetc_starts hl hrx hctr) hne,
    undelayed_micro _ exec_swuGetc_first_deadline Label.noConfusion,
    undelayed_hold exec_swuGetc_holds_delay Label.noConfusion hcfg.wraps hcfg.width hdelay rfl, hticks, getcSampled, htrace]
  rfl

/-- A data bit: its deadline, and its sample. -/
theorem undelayed_getc_bit (m : Nat) {k : Nat} {v : Bool} (hcfg : BitTimed s.cfg) (hpos : 0 < s.cfg.bitTime) :
    undelayed .swuGetc level (m + 4 + s.cfg.bitTime) (getcSampled level s k v .l3, sampleTicks s.cfg k) =
      undelayed .swuGetc level m
        (getcSampled level s (k + 1) (level (sampleTicks s.cfg (k + 1))) (if k + 1 < 8 then .l3 else .l7),
          sampleTicks s.cfg (k + 1)) := by
  have hfuel : m + 4 + s.cfg.bitTime = m + 1 + 1 + 1 + s.cfg.bitTime + 1 := by omega
  rw [hfuel, getcSampled, undelayed_micro _ (exec_swuGetc_bit_deadline rfl) Label.noConfusion,
    undelayed_hold exec_swuGetc_holds_bit Label.noConfusion hcfg.wraps hcfg.width hcfg.bitTime rfl, sampleTicks_succ,
    undelayed_micro _ (exec_swuGetc_samples rfl rfl (sampleTicks_pos hpos k)) Label.noConfusion,
    undelayed_micro _ (exec_swuGetc_loops rfl) (by split_ifs <;> exact Label.noConfusion), List.append_assoc,
    ← getcTrace_succ]
  rfl

/-- All the data bits, from the end of the start delay. -/
theorem undelayed_getc_bits (m : Nat) {k : Nat} (hk : k ≤ 8) (hcfg : BitTimed s.cfg) (hpos : 0 < s.cfg.bitTime) :
    ∃ v, undelayed .swuGetc level (m + k * (4 + s.cfg.bitTime))
        (getcSampled level s 0 s.fg.s .l3, sampleTicks s.cfg 0) =
      undelayed .swuGetc level m
        (getcSampled level s k v (if k < 8 then .l3 else .l7), sampleTicks s.cfg k) := by
  induction k generalizing m with
  | zero => exact ⟨s.fg.s, by simp⟩
  | succ k ih =>
    have hfuel : m + (k + 1) * (4 + s.cfg.bitTime) = m + 4 + s.cfg.bitTime + k * (4 + s.cfg.bitTime) := by ring
    obtain ⟨v, hrun⟩ := ih (m + 4 + s.cfg.bitTime) (by omega)
    rw [if_pos (by omega), undelayed_getc_bit m hcfg hpos, ← hfuel] at hrun
    exact ⟨_, hrun⟩

/-- The stop bit: its deadline, its sample, and the byte returned. -/
theorem undelayed_getc_stop {v : Bool} (hcfg : BitTimed s.cfg) (hpos : 0 < s.cfg.bitTime) :
    undelayed .swuGetc level (0 + 1 + 1 + 1 + s.cfg.bitTime + 1)
        (getcSampled level s 8 v .l7, sampleTicks s.cfg 8) =
      (swuRun level s (sampleTicks s.cfg 9)
        { getcSwu level s 8 with
          dl := .written ((s.ctr + sampleTicks s.cfg 9) % 2 ^ s.cfg.ctrW),
          framingError := s.swu.framingError || !level (sampleTicks s.cfg 9), rxAvailable := true }
        { s.fg with
          s := level (sampleTicks s.cfg 9), ret := .written (getcByte level s.cfg 8), k := s.fg.k + 1, label := .l0 }
        s.line.tx (s.trace ++ getcTrace level s 9), sampleTicks s.cfg 9) := by
  rw [getcSampled, undelayed_micro _ (exec_swuGetc_stop_deadline rfl) Label.noConfusion,
    undelayed_hold exec_swuGetc_holds_stop Label.noConfusion hcfg.wraps hcfg.width hcfg.bitTime rfl, sampleTicks_succ,
    undelayed_micro _ (exec_swuGetc_samples_stop (sampleTicks_pos hpos 8)) Label.noConfusion,
    undelayed_micro _ (exec_swuGetc_returns rfl) Label.noConfusion, getcTrace_succ level s 8, ← List.append_assoc]
  rfl

end

/-- Settles O25: the start delay, the eight data bits by induction, and the stop bit. -/
theorem getcSamples : Obligations.GetcSamples := by
  intro s level bt d hbt hd hl hwraps hwidth hpos hhalf hdelay hctr hrx at_
  obtain rfl : bt = s.cfg.bitTime := hbt
  obtain rfl : d = s.cfg.rxStartDelay := hd
  have hcfg : BitTimed s.cfg := ⟨hwraps, hwidth, hhalf⟩
  have hfuel : 39 + at_ 9 = 0 + 1 + 1 + 1 + s.cfg.bitTime + 1 + 8 * (4 + s.cfg.bitTime) + 1
      + s.cfg.rxStartDelay + 1 + 1 := by
    simp only [at_]
    ring
  obtain ⟨v, hbits⟩ := undelayed_getc_bits (level := level) (0 + 1 + 1 + 1 + s.cfg.bitTime + 1) le_rfl hcfg hpos
  rw [if_neg (lt_irrefl 8), undelayed_getc_stop hcfg hpos] at hbits
  rw [hfuel, undelayed_getc_start _ hl hrx hcfg hdelay hctr, hbits]
  refine ⟨_, getcByte level s.cfg 8, rfl, rfl, fun k hk => ?_, rfl, rfl, rfl, rfl, rfl⟩
  rw [getcByte, getLsbD_sampledByte _ 8 hk, decide_eq_true hk, Bool.true_and]
  rfl

end Sys2Proof.Machine
end
